-- ==== Sys2Proof/Word.lean ====
section
/-! DEFINITION. The word types of the Dorsik DK24 and nothing else: the byte of a frame, the 16-bit
field, the 32-bit tick count. (Byte order, saturation and signed differences are operations a repair
may have to mend: they stand in Decode.lean and Machine/Ops.lean.) -/

namespace Sys2Proof

/-- One byte of a frame or of a table record (chapter 1). -/
abbrev Byte := BitVec 8

/-- A two-byte field: a head time stamp, a speed, a tally (chapter 0, "Tallies are 16 bits wide"). -/
abbrev Half := BitVec 16

/-- Part time and extended head time: ticks of 20 µs, 32 bits, differences modulo 2^32 (chapter 0, "Time"). -/
abbrev Time := BitVec 32

end Sys2Proof
end

