-- ==== Sys2Proof/Config.lean ====
section
/-! DEFINITION. The fixed numbers of the part: queue sizes, tick counts of the configured units and the
limits the rules name. The spec leaves no value free, so there is no opaque constant here (assumption 15). -/

namespace Sys2Proof.Config

/-- The answer queue holds up to 8 ANSWER frames (R12). -/
def answerSpace : Nat := 8
/-- The forward queue holds up to 16 forwarded field frames (R13). -/
def forwardSpace : Nat := 16
/-- The field order queue holds up to 8 ORDER frames (R7). -/
def orderSpace : Nat := 8
/-- The capture buffer holds up to 8 capture records (R158). -/
def captureSpace : Nat := 8
/-- WATCH notices wait in a list of up to 8 (R159). -/
def noticeSpace : Nat := 8
/-- A relaying head's pending list holds up to 4 passages (R122, R124). -/
def pendingSpace : Nat := 4
/-- The most payload bytes of a frame (1.1). -/
def maxPayload : Nat := 64
/-- The port stores at most 72 bytes of a run (R1). -/
def storedBytes : Nat := 72
/-- The most record bytes a READ answer carries (1.3, R169). -/
def readSpace : Nat := 58
/-- The most bytes of a captured frame a CAPTURE answer returns (1.3, R160). -/
def captureBytes : Nat := 54
/-- The most data bytes of a CAPTURE answer (1.3, R160). -/
def captureData : Nat := 61

/-- Ticks of 20 µs in 10 ms, the unit of report, relay and silence periods. -/
def ticksPer10ms : Nat := 500
/-- Ticks in 100 ms, the unit of the round period. -/
def ticksPer100ms : Nat := 5000
/-- Ticks in one second, the unit of the restore wait limit. -/
def ticksPerSecond : Nat := 50000
/-- The 500 ms of a RESTORE_IN activation (R179). -/
def activationTicks : Nat := 25000
/-- The 2 s of the TOO_SOON check (R108). -/
def tooSoonTicks : Nat := 100000
/-- A time anchor older than this is stale (R29, R32): 20 s. -/
def staleTicks : Nat := 1000000
/-- The value at which a lead time is held (R56) and the reach of a held time (R49). -/
def leadHold : Nat := 16777215
/-- Speeds and plausibility limits: spacing in mm times this, over km/h or ticks (3.7). -/
def spacingFactor : Nat := 180
/-- The fixed part of the clock check's allowance, in ticks (R30). -/
def clockFloor : Nat := 50
/-- The divisor of the clock check's allowance (R30). -/
def clockDivisor : Nat := 32
/-- The consecutive failed clock checks that make a head FAULTY (R30). -/
def maxStrikes : Nat := 3
/-- Missed periods hold at this value (R33, R136). -/
def maxMissed : Nat := 4
/-- A section in use has at most this many boundary entries (R76). -/
def maxBoundaries : Nat := 6

end Sys2Proof.Config
end

