-- ==== Sys2Proof/Syntax.lean ====
section
/-! DEFINITION. The commands the DK24 takes from outside: one constructor of `Instr` for every row of
spec/opcode_table.json, with the row's operands. A frame row carries the header bytes and the payload
fields of its frame (1.1 to 1.3); the check bytes are those R2 computes from them. The two generic
rows and the damaged-frame row carry the run of characters as it stood on the wire (R1). -/

namespace Sys2Proof

/-- The four address bytes of a frame, bytes 0 to 3 (1.1). -/
structure Header where
  dstStation : Byte
  dstNode : Byte
  srcStation : Byte
  srcNode : Byte
  deriving DecidableEq, Repr

/-- The content of a frame: header, kind and payload (1.1). Byte 5 is the payload's length and the two
check bytes follow from the rest (R2), so neither is held. -/
structure Frame where
  hdr : Header
  kind : Byte
  payload : List Byte
  deriving DecidableEq, Repr

/-- One character of a run on the wire: its eight data bits, and whether its stop bit was good (R1). -/
structure RxChar where
  data : Byte
  stopGood : Bool
  deriving DecidableEq, Repr

/-- One edge record of a WHEEL frame: the edge byte and the head time stamp (1.2). -/
structure EdgeOperand where
  edge : Byte
  stamp : Half
  deriving DecidableEq, Repr

/-- One passage of a RELAY frame as received: the direction byte and the speed (1.2). -/
structure PassageOperand where
  direction : Byte
  speed : Half
  deriving DecidableEq, Repr

/-- The electrical level of a pin. -/
inductive PinLevel where
  | low
  | high
  deriving DecidableEq, Repr

/-- The commands: a frame ended at a port, a timer expired, a pin changed, a transmission started or ended. -/
inductive Instr where
  /-- HARDWARE_RESET: the reset is released with this value on STA7 to STA0 and this level on RATE (R176, R181). -/
  | hardwareReset (straps : Byte) (ratePin : PinLevel)
  /-- FIELD_FRAME_RECEIVED: a run of characters ended at the field port. -/
  | fieldFrameReceived (run : List RxChar)
  /-- LIFE: a LIFE frame at the field port. -/
  | life (hdr : Header) (seq : Byte) (stamp : Half) (tallyA tallyB stateByte : Byte)
  /-- WHEEL: a WHEEL frame at the field port. -/
  | wheel (hdr : Header) (seq flags : Byte) (edges : List EdgeOperand)
  /-- LINE_FRAME_RECEIVED: a run of characters ended at the line port. -/
  | lineFrameReceived (run : List RxChar)
  /-- KEEP: a KEEP frame at the line port. -/
  | keep (hdr : Header)
  /-- RELAY: a RELAY frame at the line port. -/
  | relay (hdr : Header) (seq origin status : Byte) (passages : List PassageOperand)
  /-- ORDER: a head order at the line port, of any order code but TEST_START. -/
  | order (hdr : Header) (code : Byte) (params : List Byte)
  /-- TEST_START: a head order with code TEST_START at the line port. -/
  | testStart (hdr : Header) (params : List Byte)
  /-- MODE: a REQUEST with code 0x01, its tag and the parameter bytes that follow. -/
  | mode (hdr : Header) (tag : Byte) (params : List Byte)
  /-- WRITE: a REQUEST with code 0x02. -/
  | write (hdr : Header) (tag : Byte) (params : List Byte)
  /-- READ: a REQUEST with code 0x03. -/
  | read (hdr : Header) (tag : Byte) (params : List Byte)
  /-- STATUS: a REQUEST with code 0x04. -/
  | status (hdr : Header) (tag : Byte) (params : List Byte)
  /-- READMIT: a REQUEST with code 0x05. -/
  | readmit (hdr : Header) (tag : Byte) (params : List Byte)
  /-- RESTART: a REQUEST with code 0x06. -/
  | restart (hdr : Header) (tag : Byte) (params : List Byte)
  /-- NOTICE_HOLD: a REQUEST with code 0x07. -/
  | noticeHold (hdr : Header) (tag : Byte) (params : List Byte)
  /-- NOTICE_RELEASE: a REQUEST with code 0x08. -/
  | noticeRelease (hdr : Header) (tag : Byte) (params : List Byte)
  /-- WATCH_SET: a REQUEST with code 0x09. -/
  | watchSet (hdr : Header) (tag : Byte) (params : List Byte)
  /-- CAPTURE: a REQUEST with code 0x0A. -/
  | capture (hdr : Header) (tag : Byte) (params : List Byte)
  /-- RESTORE_SWEEP: a REQUEST with code 0x10. -/
  | restoreSweep (hdr : Header) (tag : Byte) (params : List Byte)
  /-- RESTORE_DIRECT: a REQUEST with code 0x11. -/
  | restoreDirect (hdr : Header) (tag : Byte) (params : List Byte)
  /-- RESTORE_CANCEL: a REQUEST with code 0x12. -/
  | restoreCancel (hdr : Header) (tag : Byte) (params : List Byte)
  /-- SUPERVISION_TIMER_EXPIRY of a head slot. -/
  | supervisionTimerExpiry (slot : Fin 32)
  /-- CHANNEL_SUPERVISION_EXPIRY of a relay channel. -/
  | channelSupervisionExpiry (channel : Fin 8)
  /-- SILENCE_TIMER_EXPIRY of the line port. -/
  | silenceTimerExpiry
  /-- RELAY_TIMER_EXPIRY of a head slot. -/
  | relayTimerExpiry (slot : Fin 32)
  /-- ROUND_TIMER_EXPIRY of the notice unit. -/
  | roundTimerExpiry
  /-- RESTORE_TIMER_EXPIRY of a section. -/
  | restoreTimerExpiry (sec : Fin 24)
  /-- LOCAL_LINE_LEVEL_CHANGE: the board pulls the pin of a local line low, or lets it go. -/
  | localLineLevelChange (line : Fin 8) (level : PinLevel)
  /-- RESTORE_IN_TIMER_EXPIRY of a local line. -/
  | restoreInTimerExpiry (line : Fin 8)
  /-- ARBITER_TAKE: the half-duplex wait of R1 is over and the line arbiter looks for a frame. -/
  | arbiterTake
  /-- LINE_TRANSMIT_DONE: the transmission of a line frame ends. -/
  | lineTransmitDone
  /-- FIELD_ORDER_TRANSMIT: the half-duplex wait of R1 is over and the field port looks for an order. -/
  | fieldOrderTransmit
  /-- FIELD_TRANSMIT_DONE: the transmission of a field order ends. -/
  | fieldTransmitDone
  /-- RESET_PIN_LOW: the reset pin is driven low, or the supply is lost. -/
  | resetPinLow
  /-- LINE_DAMAGED_FRAME: a run of characters that is a damaged frame ended at the line port. -/
  | lineDamagedFrame (run : List RxChar)
  deriving DecidableEq, Repr

end Sys2Proof
end

