-- ==== Sys2Proof/Decode.lean ====
section
/-! DEFINITION. Reading bytes: the byte order of multi-byte fields, the check of R2, the damage rules of R3
that turn a run of characters into a checked frame or name why it is damaged, the wire form of a frame,
the field readers of the received kinds, and `decodeTableWord` over the rows of the opcode table that give
bits (the table gives none). -/

namespace Sys2Proof

/-! ## Byte order: most significant byte first (chapter 0, "Bytes and quantities") -/

def hi8 (x : Half) : Byte := x.extractLsb' 8 8
def lo8 (x : Half) : Byte := x.extractLsb' 0 8
/-- Two bytes, the most significant first. -/
def be16 (h l : Byte) : Half := h ++ l
def bytes16 (x : Half) : List Byte := [hi8 x, lo8 x]
def bytes32 (x : Time) : List Byte :=
  [x.extractLsb' 24 8, x.extractLsb' 16 8, x.extractLsb' 8 8, x.extractLsb' 0 8]
/-- Byte `i` of a payload or parameter list (0 beyond its end; the length rules keep readers inside it). -/
def byteAt (bs : List Byte) (i : Nat) : Byte := bs.getD i 0
/-- The two-byte field at offset `i`. -/
def halfAt (bs : List Byte) (i : Nat) : Half := be16 (byteAt bs i) (byteAt bs (i + 1))

/-! ## The check (R2) -/

/-- One bit into the check register, generator x^16 + x^12 + x^5 + 1 (R2). -/
def crcBit (reg : Half) (b : Bool) : Half :=
  if reg.msb ^^ b then (reg <<< 1) ^^^ 0x1021 else reg <<< 1

/-- One byte into the check register, most significant bit first (R2). -/
def crcByte (reg : Half) (b : Byte) : Half :=
  [7, 6, 5, 4, 3, 2, 1, 0].foldl (fun r i => crcBit r (b.getLsbD i)) reg

/-- The check over bytes 0 to 5 + L: the register starts at all ones, no final inversion (R2). -/
def crc (bs : List Byte) : Half := bs.foldl crcByte 0xFFFF

/-! ## Frame kinds (1.2) -/

def kindLife : Byte := 0x11
def kindWheel : Byte := 0x12
def kindOrder : Byte := 0x21
def kindRelay : Byte := 0x31
def kindRequest : Byte := 0x41
def kindAnswer : Byte := 0x42
def kindVerdict : Byte := 0x51
def kindRound : Byte := 0x52
def kindWatch : Byte := 0x53
def kindKeep : Byte := 0x61

/-- Order code 0x01 of 1.2. -/
def codeTestStart : Byte := 0x01

/-! ## The wire form of a frame (1.1) -/

/-- Bytes 0 to 5 + L of a frame: what the check covers and what a capture record keeps. -/
def Frame.body (f : Frame) : List Byte :=
  [f.hdr.dstStation, f.hdr.dstNode, f.hdr.srcStation, f.hdr.srcNode, f.kind,
    BitVec.ofNat 8 f.payload.length] ++ f.payload

/-- The whole frame as sent: the body and its check, most significant byte first (R2). -/
def Frame.wire (f : Frame) : List Byte := f.body ++ bytes16 (crc f.body)

/-! ## Damage (R3) -/

/-- The length rule of each listed kind (R3); a kind not listed is judged by the envelope alone. -/
def lengthRule (kind : Byte) (p : List Byte) : Bool :=
  if kind = kindLife then p.length == 6
  else if kind = kindWheel then
    p.length ≥ 3 && 1 ≤ (byteAt p 2).toNat && (byteAt p 2).toNat ≤ 6 && p.length == 3 + 3 * (byteAt p 2).toNat
  else if kind = kindOrder then p.length ≥ 1
  else if kind = kindRelay then
    p.length ≥ 4 && (byteAt p 3).toNat ≤ 4 && p.length == 4 + 3 * (byteAt p 3).toNat
  else if kind = kindRequest then p.length ≥ 2
  else if kind = kindAnswer then p.length ≥ 3
  else if kind = kindVerdict then p.length == 15
  else if kind = kindRound then p.length == 26 && byteAt p 1 == 24
  else if kind = kindWatch then p.length == 8
  else if kind = kindKeep then p.length == 0
  else true

/-- Why a frame is damaged: the five conditions of R3. -/
inductive Damage where
  /-- fewer than 8 bytes were received -/
  | short
  /-- the check fails -/
  | badCheck
  /-- L is above 64 -/
  | longPayload
  /-- the received byte count is not 8 + L -/
  | countMismatch
  /-- the length rule of the kind is broken -/
  | badLength
  deriving DecidableEq, Repr

/-- What a port makes of a run: a damaged frame, with the reason, or a checked frame (R3). -/
inductive Judged where
  | damaged (why : Damage)
  | checked (f : Frame)
  deriving DecidableEq, Repr

/-- The port's judgement of a run of characters. A character with a faulty stop bit is dropped and not
counted; characters beyond the 72nd are counted but not stored (R1). -/
def judgeRun (run : List RxChar) : Judged :=
  let got := (run.filter (·.stopGood)).map (·.data)
  if got.length < 8 then .damaged .short else
  let stored := got.take Config.storedBytes
  let len := (byteAt stored 5).toNat
  if len > Config.maxPayload then .damaged .longPayload
  else if got.length ≠ 8 + len then .damaged .countMismatch
  else if crc (stored.take (6 + len)) ≠ halfAt stored (6 + len) then .damaged .badCheck
  else
    let payload := (stored.drop 6).take len
    if lengthRule (byteAt stored 4) payload then
      .checked ⟨⟨byteAt stored 0, byteAt stored 1, byteAt stored 2, byteAt stored 3⟩, byteAt stored 4, payload⟩
    else .damaged .badLength

/-- The same judgement of a frame that stands on the wire whole, with the check R2 gives it. -/
def judgeFrame (f : Frame) : Judged :=
  if f.payload.length > Config.maxPayload then .damaged .longPayload
  else if lengthRule f.kind f.payload then .checked f else .damaged .badLength

/-! ## Reading the payloads of received kinds (1.2, R4) -/

/-- The records of three bytes that end a WHEEL and a RELAY payload: a byte and a two-byte field. -/
def triples : List Byte → List (Byte × Half)
  | b :: h :: l :: rest => (b, be16 h l) :: triples rest
  | _ => []

/-- The edge records of a WHEEL payload, in list order. -/
def wheelEdges (p : List Byte) : List EdgeOperand := (triples (p.drop 3)).map fun t => ⟨t.1, t.2⟩

/-- The passages of a RELAY payload, in list order. -/
def relayPassages (p : List Byte) : List PassageOperand := (triples (p.drop 4)).map fun t => ⟨t.1, t.2⟩

/-! ## The opcode table -/

/-- The command that a word spells by the table's bits. No row of spec/opcode_table.json gives bits
("n_rows_with_fixed": 0), so no word spells one. -/
def decodeTableWord (_nbits _w : Nat) : Option Instr := none

end Sys2Proof
end

