-- ==== Sys2Proof/Machine/State.lean ====
section
/-! DEFINITION. The state of the DK24: every table, record, queue, tally, timer, flag and pin the spec
gives the part, the command queue of the block's model, and the state after reset. -/

namespace Sys2Proof.Machine

/-! ## The states and causes of chapter 1 -/

/-- The mode of the part (R162). -/
inductive Mode where
  | config
  | run
  deriving DecidableEq, Repr

/-- The supervision state of a head slot or relay channel; IN_TEST by head slots alone (R20, R64, R130). -/
inductive SourceState where
  | off
  | awaiting
  | normal
  | late
  | lost
  | faulty
  | inTest
  deriving DecidableEq, Repr

/-- The fault causes of heads and channels (1.2). -/
inductive FaultCause where
  | seqGap
  | edgeTally
  | edgeOrder
  | tooFast
  | sensorFailed
  | clock
  | timeAnchor
  | remoteFault
  deriving DecidableEq, Repr

/-- The health of a sensor as last reported (R20). -/
inductive Health where
  | ok
  | degraded
  | failed
  deriving DecidableEq, Repr

/-- The recognition states (R43). -/
inductive RecogState where
  | vacant
  | aFromA
  | bFromB
  | bothFromA
  | bothFromB
  | bFromA
  | aFromB
  deriving DecidableEq, Repr

/-- The direction of a passage (chapter 0). -/
inductive Direction where
  | up
  | down
  deriving DecidableEq, Repr

/-- The status a relaying head reports and a channel receives (R123, R130). -/
inductive OriginStatus where
  | normal
  | awaiting
  | faulty
  deriving DecidableEq, Repr

/-- The section states (R78). -/
inductive SecState where
  | off
  | disturbed
  | restoreWait
  | sweep
  | occupied
  | settling
  | clear
  deriving DecidableEq, Repr

/-- The disturbance causes (1.2). -/
inductive Cause where
  | start
  | restart
  | countOver
  | countUnder
  | headFault
  | relayFault
  | headTest
  | headLost
  | relayLost
  | readmit
  | restoreAbandoned
  | restoreTimeout
  | cancelled
  deriving DecidableEq, Repr

/-- The kinds of restore (R78). -/
inductive RestoreKind where
  | sweep
  | direct
  deriving DecidableEq, Repr

/-- The results a request or order is answered with (1.2). -/
inductive Result where
  | ok
  | notPermitted
  | wrongMode
  | range
  | badValue
  | badLength
  | validation
  | wrongState
  | busy
  | tooSoon
  | notEligible
  | inhibited
  | fieldBusy
  | testBlocked
  | noRoute
  | unknown
  deriving DecidableEq, Repr

/-- HOLD or DISTURB (chapter 0, "Loss action"). -/
inductive LossAction where
  | hold
  | disturb
  deriving DecidableEq, Repr

/-- Which way a boundary entry counts (R66). -/
inductive Sense where
  | intoOnUp
  | intoOnDown
  deriving DecidableEq, Repr

/-- The function of a local line (1.4). -/
inductive LineFunction where
  | off
  | sectionOut
  | alarmOut
  | restoreIn
  | inhibitIn
  deriving DecidableEq, Repr

/-- The polarity of a local line (R177). -/
inductive Polarity where
  | normal
  | inverted
  deriving DecidableEq, Repr

/-- A timer: stopped, or running with an expiry in part time (R105). -/
abbrev Timer := Option Time

/-! ## The seven tables (1.4, R5) -/

/-- The PART record. -/
structure PartRec where
  interlocking : Byte
  maintenance : Byte
  recorder : Byte
  passFirst : Byte
  passLast : Byte
  silenceLimit : Byte
  relayPeriod : Byte
  roundPeriod : Byte
  /-- bit s is section s -/
  alarmMask : BitVec 24
  deriving DecidableEq, Repr

/-- A HEAD record. -/
structure HeadRec where
  address : Byte
  spacing : Half
  reversed : Bool
  lossAction : LossAction
  guarded : Bool
  reportPeriod : Byte
  grace : Fin 4
  speedLimit : Half
  relayOut : Byte
  deriving DecidableEq, Repr

/-- A RELAY record. -/
structure RelayRec where
  station : Byte
  headAddress : Byte
  period : Byte
  grace : Fin 4
  lossAction : LossAction
  deriving DecidableEq, Repr

/-- A SECTION record. -/
structure SectionRec where
  inUse : Bool
  directPermitted : Bool
  ceiling : Half
  waitLimit : Byte
  deriving DecidableEq, Repr

/-- A BOUNDARY record; `sec = none` is the value 255, an unused entry (R66). -/
structure BoundaryRec where
  sec : Option (Fin 24)
  source : Fin 40
  sense : Sense
  deriving DecidableEq, Repr

/-- A FILTER record. -/
structure FilterRec where
  node : Byte
  mask : Byte
  enabled : Bool
  includeLife : Bool
  deriving DecidableEq, Repr

/-- A LINE record. -/
structure LineRec where
  function : LineFunction
  sec : Fin 24
  polarity : Polarity
  deriving DecidableEq, Repr

/-- The configuration tables. -/
structure Tables where
  part : PartRec
  heads : Vector HeadRec 32
  relays : Vector RelayRec 8
  sections : Vector SectionRec 24
  boundaries : Vector BoundaryRec 96
  filters : Vector FilterRec 4
  lines : Vector LineRec 8
  deriving DecidableEq, Repr

def PartRec.reset : PartRec := ⟨0, 0, 0, 0, 0, 50, 20, 10, 0⟩
def HeadRec.reset : HeadRec := ⟨0, 140, false, .hold, false, 10, 1, 250, 0⟩
def RelayRec.reset : RelayRec := ⟨0, 1, 20, 1, .hold⟩
def SectionRec.reset : SectionRec := ⟨false, false, 4095, 30⟩
def BoundaryRec.reset : BoundaryRec := ⟨none, 0, .intoOnUp⟩
def FilterRec.reset : FilterRec := ⟨0, 0, false, false⟩
def LineRec.reset : LineRec := ⟨.off, 0, .normal⟩

/-- Every table at the values of R5. -/
def Tables.reset : Tables where
  part := .reset
  heads := Vector.replicate 32 .reset
  relays := Vector.replicate 8 .reset
  sections := Vector.replicate 24 .reset
  boundaries := Vector.replicate 96 .reset
  filters := Vector.replicate 4 .reset
  lines := Vector.replicate 8 .reset

/-! ## Runtime records -/

/-- The time anchor: an extended head time and the part time at which it was taken (R20). -/
structure Anchor where
  ext : Time
  part : Time
  deriving DecidableEq, Repr

/-- The recognition record of a head slot (R43). -/
structure Recog where
  state : RecogState
  onNote : Option Time
  offNote : Option Time
  lastEdge : Option Time
  rockBack : Half
  deriving DecidableEq, Repr

/-- The runtime record of a head slot (R20) with its recognition record and supervision timer (R33). -/
structure HeadRun where
  state : SourceState
  expected : Option Byte
  recvA : Byte
  recvB : Byte
  missed : Fin 5
  fault : Option FaultCause
  anchor : Option Anchor
  strikes : Fin 4
  healthA : Health
  healthB : Health
  repeats : Half
  recog : Recog
  timer : Timer
  deriving DecidableEq, Repr

/-- A passage on a relaying head's pending list (R122): what the relay unit keeps of a passage record (R60). -/
structure Passage where
  dir : Direction
  speed : Half
  deriving DecidableEq, Repr

/-- The relay-out record of a head slot (R122). -/
structure RelayOut where
  seq : Byte
  pending : List Passage
  broken : Bool
  ready : Bool
  timer : Timer
  deriving DecidableEq, Repr

/-- The runtime record of a relay channel (R130). -/
structure Channel where
  state : SourceState
  expected : Option Byte
  missed : Fin 5
  fault : Option FaultCause
  lastOrigin : OriginStatus
  timer : Timer
  deriving DecidableEq, Repr

/-- The runtime record of a section (R78); its owed flag and restore timer stand with their units. -/
structure SecRun where
  state : SecState
  count : Nat
  inTally : Half
  outTally : Half
  absorbed : Half
  swept : Bool
  cause : Option Cause
  /-- `none` is "no source" -/
  causeSource : Option (Fin 40)
  repeated : Bool
  activity : Bool
  warning : Bool
  disturbedTime : Time
  restoreKind : Option RestoreKind
  deriving DecidableEq, Repr

def Recog.reset : Recog := ⟨.vacant, none, none, none, 0⟩
def HeadRun.reset : HeadRun := ⟨.off, none, 0, 0, 0, none, none, 0, .ok, .ok, 0, .reset, none⟩
def RelayOut.reset : RelayOut := ⟨0, [], false, false, none⟩
def Channel.reset : Channel := ⟨.off, none, 0, none, .awaiting, none⟩
def SecRun.reset : SecRun := ⟨.off, 0, 0, 0, 0, false, none, none, false, false, false, 0, none⟩

/-! ## Ports, tallies, notices, watch, lines -/

/-- The line link state (R8). -/
inductive Link where
  | down
  | up
  deriving DecidableEq, Repr

/-- A frame on its way out of the line port, with the mark of the answer to a RESTART (R173). -/
structure Outgoing where
  frame : Frame
  restart : Bool
  deriving DecidableEq, Repr

/-- The field port: the field order queue, oldest first, and the order being transmitted (R7). -/
structure FieldPort where
  orders : List Frame
  tx : Option Frame
  deriving DecidableEq, Repr

/-- The line port and its arbiter (R8, R11, R12, R13). -/
structure LinePort where
  link : Link
  silence : Timer
  answers : List Outgoing
  forward : List Frame
  tx : Option Outgoing
  lastSlot : Fin 32
  lastSection : Fin 24
  deriving DecidableEq, Repr

/-- The six tallies of R14. -/
structure Tallies where
  fieldDamaged : Half
  lineDamaged : Half
  misrouted : Half
  unknown : Half
  forwardDropped : Half
  droppedRequest : Half
  deriving DecidableEq, Repr

/-- Whether VERDICTs are held (R139). -/
inductive Hold where
  | held
  | free
  deriving DecidableEq, Repr

/-- The notice unit (R139). -/
structure Notice where
  owed : Vector Bool 24
  hold : Hold
  roundTimer : Timer
  roundReady : Bool
  deriving DecidableEq, Repr

/-- The mode of a watch entry (R155). -/
inductive WatchMode where
  | off
  | once
  | every
  deriving DecidableEq, Repr

/-- The port of a watch entry (R155). -/
inductive WatchPort where
  | field
  | line
  | either
  deriving DecidableEq, Repr

/-- A present payload test (R155). -/
structure PayloadTest where
  offset : Fin 64
  value : Byte
  mask : Byte
  deriving DecidableEq, Repr

/-- A watch entry (R155). -/
structure WatchEntry where
  mode : WatchMode
  port : WatchPort
  node : Byte
  nodeMask : Byte
  kind : Byte
  test : Option PayloadTest
  deriving DecidableEq, Repr

/-- A capture record: the entry, the part time of the match and the frame's bytes 0 to 5 + L (R158). -/
structure Capture where
  entry : Fin 4
  time : Time
  bytes : List Byte
  deriving DecidableEq, Repr

/-- The watch unit: entries, capture buffer and notice list, oldest first (R155, R158, R159). -/
structure Watch where
  entries : Vector WatchEntry 4
  captures : List Capture
  notices : List Frame
  deriving DecidableEq, Repr

/-- The activation state of a RESTORE_IN line (R179). -/
inductive Activation where
  | idle
  | timing
  | spent
  deriving DecidableEq, Repr

/-- A local line's own items: the latch, the level the board puts on the pin, the activation (R177, R179). -/
structure LineRun where
  latch : Bool
  board : PinLevel
  activation : Activation
  timer : Timer
  deriving DecidableEq, Repr

/-- What a hardware reset reads from the pins, and the reset pin itself (R176, R181). -/
structure Pins where
  /-- the reset pin is low -/
  resetLow : Bool
  /-- `none` is unaddressed -/
  ownStation : Option Byte
  /-- the RATE pin as read: high is 1 Mbit/s -/
  rate : PinLevel
  deriving DecidableEq, Repr

def FieldPort.reset : FieldPort := ⟨[], none⟩
def LinePort.reset : LinePort := ⟨.down, none, [], [], none, 31, 23⟩
def Tallies.reset : Tallies := ⟨0, 0, 0, 0, 0, 0⟩
def WatchEntry.reset : WatchEntry := ⟨.off, .field, 0, 0, 0, none⟩
def Watch.reset : Watch := ⟨Vector.replicate 4 .reset, [], []⟩
def LineRun.reset : LineRun := ⟨false, .high, .idle, none⟩

/-- The notice unit after a reset at part time `now`, the round timer started with a round period of
`ticks` (R139). -/
def Notice.resetAt (now : Time) (ticks : Nat) : Notice :=
  ⟨Vector.replicate 24 false, .free, some (now + BitVec.ofNat 32 ticks), false⟩

/-- The own station a strap value gives (R176): 1 to 239, any other value leaves the part unaddressed. -/
def stationOfStraps (straps : Byte) : Option Byte :=
  if 1 ≤ straps.toNat ∧ straps.toNat ≤ 239 then some straps else none

/-! ## The state -/

/-- The whole DK24. `pending` is the model's own field: the commands waiting to be taken, first in first out. -/
structure State where
  pending : List Instr
  pins : Pins
  partTime : Time
  mode : Mode
  pendingRestart : Bool
  tables : Tables
  tallies : Tallies
  fieldPort : FieldPort
  linePort : LinePort
  heads : Vector HeadRun 32
  relayOut : Vector RelayOut 32
  channels : Vector Channel 8
  sections : Vector SecRun 24
  restoreTimers : Vector Timer 24
  notice : Notice
  watch : Watch
  lines : Vector LineRun 8
  deriving DecidableEq, Repr

/-- Every block at its hardware-reset values (R181), the straps and the RATE pin read as given. -/
def State.atReset (straps : Byte) (ratePin : PinLevel) : State where
  pending := []
  pins := ⟨false, stationOfStraps straps, ratePin⟩
  partTime := 0
  mode := .config
  pendingRestart := false
  tables := .reset
  tallies := .reset
  fieldPort := .reset
  linePort := .reset
  heads := Vector.replicate 32 .reset
  relayOut := Vector.replicate 32 .reset
  channels := Vector.replicate 8 .reset
  sections := Vector.replicate 24 .reset
  restoreTimers := Vector.replicate 24 none
  notice := .resetAt 0 (PartRec.reset.roundPeriod.toNat * Config.ticksPer100ms)
  watch := .reset
  lines := Vector.replicate 8 .reset

/-- The machine right after reset with every pin open: the internal pull-ups read the straps as 255, which
leaves the part unaddressed, RATE as high and every local line pin as high.
DESIGN CHOICE (assumption 1): the spec gives no strap value. A HARDWARE_RESET command reads any other. -/
def State.reset : State := State.atReset 0xFF .high

/-- The spec names no condition on which the part stops: no command faults. -/
inductive Fault where
  deriving DecidableEq, Repr

/-- Why a command has no meaning. -/
inductive Refusal where
  /-- Raised by `exec` alone, for a row of the opcode table that has no meaning yet (safe). No arm raises it. -/
  | notModelled (mnemonic : String)
  deriving DecidableEq, Repr

end Sys2Proof.Machine
end

