-- ==== Sys2Proof/Machine/Ops.lean ====
section
/-! DEFINITION. The operations every block shares: saturating tallies, timers, tick arithmetic, the one
place each record is written, the codes of chapter 1 and the answer queue. -/

namespace Sys2Proof.Machine

/-! ## Numbers and records -/

/-- A 16-bit tally increments and stays at 65,535 (chapter 0, "Bytes and quantities"; R14). -/
def satInc (t : Half) : Half := if t = 0xFFFF then t else t + 1

/-- Missed periods increase by one, holding at 4 (R33, R136). -/
def missInc (m : Fin 5) : Fin 5 := if h : m.val < Config.maxMissed then ⟨m.val + 1, by simp only [Config.maxMissed] at h; omega⟩ else m

/-- A 16-bit difference read as signed: 32,768 or more stands for the value minus 65,536 (R29, R46). -/
def signed16 (r : Half) : Int := r.toInt

/-- A record of a table of `n` replaced. -/
def upd {α : Type} {n : Nat} (v : Vector α n) (i : Fin n) (x : α) : Vector α n := v.set i.val x i.isLt

/-- A table of `n` records given by their index. -/
def tab {α : Type} {n : Nat} (f : Fin n → α) : Vector α n := Vector.ofFn f

/-- The lowest index with a property. -/
def lowest {n : Nat} (p : Fin n → Bool) : Option (Fin n) := (List.finRange n).find? p

/-- The `n` indexes in turn, the one after `last` first, wrapping from the highest to 0 (R11). -/
def turn {n : Nat} (last : Fin n) : List (Fin n) :=
  (List.finRange n).map fun i => ⟨(last.val + 1 + i.val) % n, Nat.mod_lt _ (Nat.lt_of_le_of_lt (Nat.zero_le _) last.isLt)⟩

/-- The first index in turn with a property (R11, R143). -/
def nextInTurn {n : Nat} (last : Fin n) (p : Fin n → Bool) : Option (Fin n) := (turn last).find? p

/-! ## Timers (chapter 0, "Timebase") -/

/-- A timer started now for so many ticks. -/
def State.timerAfter (s : State) (ticks : Nat) : Timer := some (s.partTime + BitVec.ofNat 32 ticks)

/-- A running timer whose expiry part time has reached; a stopped timer does not expire (R33, R105).
DESIGN CHOICE (assumption 3): "reached" is the difference modulo 2^32 read as signed. -/
def Timer.due (t : Timer) (now : Time) : Bool :=
  match t with
  | none => false
  | some e => (now - e).toNat < 2 ^ 31

/-- Ticks of a period in 10 ms units: report, relay and silence periods. -/
def ticks10ms (p : Byte) : Nat := p.toNat * Config.ticksPer10ms

/-! ## Writing one record of the state -/

def State.setHead (s : State) (k : Fin 32) (h : HeadRun) : State := { s with heads := upd s.heads k h }
def State.setRelayOut (s : State) (k : Fin 32) (r : RelayOut) : State := { s with relayOut := upd s.relayOut k r }
def State.setChannel (s : State) (c : Fin 8) (r : Channel) : State := { s with channels := upd s.channels c r }
def State.setSection (s : State) (k : Fin 24) (r : SecRun) : State := { s with sections := upd s.sections k r }
def State.setRestoreTimer (s : State) (k : Fin 24) (t : Timer) : State := { s with restoreTimers := upd s.restoreTimers k t }
def State.setOwed (s : State) (k : Fin 24) (b : Bool) : State := { s with notice := { s.notice with owed := upd s.notice.owed k b } }
def State.setLine (s : State) (k : Fin 8) (l : LineRun) : State := { s with lines := upd s.lines k l }
def State.setTallies (s : State) (t : Tallies) : State := { s with tallies := t }
def State.setFieldPort (s : State) (p : FieldPort) : State := { s with fieldPort := p }
def State.setLinePort (s : State) (p : LinePort) : State := { s with linePort := p }
def State.setNotice (s : State) (n : Notice) : State := { s with notice := n }
def State.setWatch (s : State) (w : Watch) : State := { s with watch := w }
def State.setTables (s : State) (t : Tables) : State := { s with tables := t }
def State.setMode (s : State) (m : Mode) : State := { s with mode := m }
def State.setPendingRestart (s : State) (b : Bool) : State := { s with pendingRestart := b }
def State.setLines (s : State) (v : Vector LineRun 8) : State := { s with lines := v }
def State.setPins (s : State) (p : Pins) : State := { s with pins := p }
def State.setPartTime (s : State) (t : Time) : State := { s with partTime := t }

/-! ## The tallies of R14 -/

def State.countFieldDamaged (s : State) : State := s.setTallies { s.tallies with fieldDamaged := satInc s.tallies.fieldDamaged }
def State.countLineDamaged (s : State) : State := s.setTallies { s.tallies with lineDamaged := satInc s.tallies.lineDamaged }
def State.countMisrouted (s : State) : State := s.setTallies { s.tallies with misrouted := satInc s.tallies.misrouted }
def State.countUnknown (s : State) : State := s.setTallies { s.tallies with unknown := satInc s.tallies.unknown }
def State.countForwardDropped (s : State) : State := s.setTallies { s.tallies with forwardDropped := satInc s.tallies.forwardDropped }
def State.countDroppedRequest (s : State) : State := s.setTallies { s.tallies with droppedRequest := satInc s.tallies.droppedRequest }

/-! ## Codes (1.2, 1.4) -/

def Mode.code : Mode → Byte
  | .config => 0
  | .run => 1

def SourceState.code : SourceState → Byte
  | .off => 0
  | .awaiting => 1
  | .normal => 2
  | .late => 3
  | .lost => 4
  | .faulty => 5
  | .inTest => 6

def FaultCause.code : FaultCause → Byte
  | .seqGap => 1
  | .edgeTally => 2
  | .edgeOrder => 3
  | .tooFast => 4
  | .sensorFailed => 5
  | .clock => 6
  | .timeAnchor => 7
  | .remoteFault => 8

def Health.code : Health → Byte
  | .ok => 0
  | .degraded => 1
  | .failed => 2

/-- A reported health: 0 OK, 1 DEGRADED, 2 and 3 FAILED (1.2, R4). -/
def Health.ofBits (b : BitVec 2) : Health := if b = 0 then .ok else if b = 1 then .degraded else .failed

def RecogState.code : RecogState → Byte
  | .vacant => 0
  | .aFromA => 1
  | .bFromB => 2
  | .bothFromA => 3
  | .bothFromB => 4
  | .bFromA => 5
  | .aFromB => 6

def SecState.code : SecState → Byte
  | .off => 0
  | .disturbed => 1
  | .restoreWait => 2
  | .sweep => 3
  | .occupied => 4
  | .settling => 5
  | .clear => 6

def Cause.code : Cause → Byte
  | .start => 1
  | .restart => 2
  | .countOver => 3
  | .countUnder => 4
  | .headFault => 5
  | .relayFault => 6
  | .headTest => 7
  | .headLost => 8
  | .relayLost => 9
  | .readmit => 10
  | .restoreAbandoned => 11
  | .restoreTimeout => 12
  | .cancelled => 13

def RestoreKind.code : RestoreKind → Byte
  | .sweep => 1
  | .direct => 2

def Result.code : Result → Byte
  | .ok => 0
  | .notPermitted => 1
  | .wrongMode => 2
  | .range => 3
  | .badValue => 4
  | .badLength => 5
  | .validation => 6
  | .wrongState => 7
  | .busy => 8
  | .tooSoon => 9
  | .notEligible => 10
  | .inhibited => 11
  | .fieldBusy => 12
  | .testBlocked => 13
  | .noRoute => 14
  | .unknown => 15

def OriginStatus.code : OriginStatus → Byte
  | .normal => 0
  | .awaiting => 1
  | .faulty => 2

/-- An origin status above 2 is read as FAULTY (R4). -/
def OriginStatus.ofByte (b : Byte) : OriginStatus := if b = 0 then .normal else if b = 1 then .awaiting else .faulty

def Direction.code : Direction → Byte
  | .up => 0
  | .down => 1

/-- A direction other than 0 is read as DOWN (R4). -/
def Direction.ofByte (b : Byte) : Direction := if b = 0 then .up else .down

def LineFunction.code : LineFunction → Byte
  | .off => 0
  | .sectionOut => 1
  | .alarmOut => 2
  | .restoreIn => 3
  | .inhibitIn => 4

/-- The code of an optional item, 0 when it is absent. -/
def codeOr0 {α : Type} (f : α → Byte) : Option α → Byte
  | none => 0
  | some a => f a

/-- A cause source as carried: 255 for none (R99). -/
def sourceCode : Option (Fin 40) → Byte
  | none => 255
  | some n => BitVec.ofNat 8 n.val

/-- Bit `i` of a flags byte. -/
def flagBit (i : Nat) (b : Bool) : Byte := if b then BitVec.ofNat 8 (2 ^ i) else 0

/-! ## Frames the part builds (R6) and the answer queue (R12) -/

/-- The own station as frames carry it; 0 ("none") while unaddressed (DEDUCED, assumption 8: such a
frame never leaves the part, R10). -/
def State.ownByte (s : State) : Byte := s.pins.ownStation.getD 0

/-- A frame of the part's own: own station and node 0 as source (R6). -/
def State.ownFrame (s : State) (station node kind : Byte) (payload : List Byte) : Frame :=
  ⟨⟨station, node, s.ownByte, 0⟩, kind, payload⟩

/-- A result and the data that go with it (1.3). -/
structure Reply where
  result : Result
  data : List Byte
  deriving DecidableEq, Repr

/-- The ANSWER to a frame: code, tag (or order code), result, data, to the frame's source (1.3, R6). -/
def State.answerFrame (s : State) (asker : Header) (code tag : Byte) (r : Reply) : Frame :=
  s.ownFrame asker.srcStation asker.srcNode kindAnswer ([code, tag, r.result.code] ++ r.data)

/-- The answer queue holds 8 answers. -/
def State.answersFull (s : State) : Bool := Config.answerSpace ≤ s.linePort.answers.length

/-- An answer joins the tail of the answer queue (R12). -/
def State.pushAnswer (s : State) (a : Outgoing) : State :=
  s.setLinePort { s.linePort with answers := s.linePort.answers ++ [a] }

end Sys2Proof.Machine
end

