-- ==== Sys2Proof/Machine/Recognition.lean ====
section
/-! DEFINITION. Chapter 3: extended head time, the recognition machine, lead times, plausibility, speed and
direction. Pure functions on the recognition record of one head. -/

namespace Sys2Proof.Machine

/-! ## The record (R43, R44) -/

/-- A recognition reset: VACANT, notes and last edge time absent, the rock-back tally kept (R44). -/
def Recog.clear (r : Recog) : Recog := { r with state := .vacant, onNote := none, offNote := none, lastEdge := none }

/-! ## Extended head time (R29, R46, R47, R48, R49) -/

/-- The part advance: the arrival time minus the anchor part time, modulo 2^32 (R29). -/
def Anchor.advance (a : Anchor) (now : Time) : Nat := (now - a.part).toNat

/-- The anchor is stale when the part advance is above 1,000,000 ticks (R29, R32). -/
def Anchor.stale (a : Anchor) (now : Time) : Bool := Config.staleTicks < a.advance now

/-- The expected extended time E (R29). -/
def Anchor.expectedTime (a : Anchor) (now : Time) : Time := a.ext + (now - a.part)

/-- The signed deviation r of a head time stamp from E, modulo 65,536 (R29, R46). -/
def Anchor.deviation (a : Anchor) (now : Time) (stamp : Half) : Int :=
  signed16 (stamp - (a.expectedTime now).truncate 16)

/-- The point nearest to E at which the head clock reads the stamp: E + r (R29, R46). -/
def Anchor.place (a : Anchor) (now : Time) (stamp : Half) : Time :=
  a.expectedTime now + BitVec.ofInt 32 (a.deviation now stamp)

/-- A later edge of a frame: the edge before it plus the difference of the stamps modulo 65,536 (R47). -/
def laterEdge (before : Time) (beforeStamp stamp : Half) : Time := before + (stamp - beforeStamp).zeroExtend 32

/-- The first edge lies before the last edge time: their difference, read as signed, is negative (R48). -/
def runsBackwards (last : Option Time) (t : Time) : Bool :=
  match last with
  | none => false
  | some l => 2 ^ 31 ≤ (t - l).toNat

/-- A held time more than 16,777,215 ticks before the anchor is raised to that distance (R49). -/
def raiseTime (anchor held : Time) : Time :=
  if (Config.leadHold : Int) < (anchor - held).toInt then anchor - BitVec.ofNat 32 Config.leadHold else held

/-- Every held time of the record against the anchor's new extended head time (R49). -/
def Recog.raise (r : Recog) (anchor : Time) : Recog :=
  { r with onNote := r.onNote.map (raiseTime anchor), offNote := r.offNote.map (raiseTime anchor),
           lastEdge := r.lastEdge.map (raiseTime anchor) }

/-! ## Lead times, plausibility, speed, direction (R56 to R59) -/

/-- A lead time: the difference modulo 2^32, held at 16,777,215 (R56). -/
def leadTime (note t : Time) : Nat := min (t - note).toNat Config.leadHold

/-- The plausibility limit Δmin: the smallest whole number not less than spacing × 180 / speed limit (R57). -/
def HeadRec.minLead (c : HeadRec) : Nat :=
  (c.spacing.toNat * Config.spacingFactor + c.speedLimit.toNat - 1) / c.speedLimit.toNat

/-- The speed: the largest whole number not above spacing × 180 / Δout (R58). -/
def HeadRec.speed (c : HeadRec) (lead : Nat) : Half := BitVec.ofNat 16 (c.spacing.toNat * Config.spacingFactor / lead)

/-- The direction of a wheel that crossed from A to B, or from B to A, under the mounting (R59). -/
def HeadRec.direction (c : HeadRec) (fromAToB : Bool) : Direction := if fromAToB != c.reversed then .up else .down

/-! ## The machine (R50 to R55) -/

/-- The two sensors of a head. -/
inductive Sensor where
  | a
  | b
  deriving DecidableEq, Repr

/-- The sensor of an edge byte, bit 0 (1.2). -/
def sensorOf (e : EdgeOperand) : Sensor := if e.edge.getLsbD 0 then .b else .a

/-- The edge byte's bit 1: ON (covered) or OFF (freed) (1.2). -/
def edgeIsOn (e : EdgeOperand) : Bool := e.edge.getLsbD 1

/-- The passage record formed at the edge that completes a passage (R60). -/
structure PassageRecord where
  /-- the count source of the head, equal to the head slot -/
  source : Fin 32
  dir : Direction
  speed : Half
  /-- the extended head time of the completing OFF edge -/
  completion : Time
  deriving DecidableEq, Repr

/-- What the relay unit reads of a passage record and a relay frame carries: direction and speed (R60, R124). -/
def PassageRecord.relayed (p : PassageRecord) : Passage := ⟨p.dir, p.speed⟩

/-- What an edge does: a fault, or the record it leaves and the passage record it forms. -/
inductive EdgeEffect where
  | fault (c : FaultCause)
  | taken (r : Recog) (p : Option PassageRecord)
  deriving DecidableEq, Repr

/-- The plausibility check before a transition's effect: a lead time below Δmin is TOO_FAST (R57).
A state without its note, which no run reaches, measures 0 and so never passes (assumption 10). -/
def measured (c : HeadRec) (note : Option Time) (t : Time) (k : Nat → EdgeEffect) : EdgeEffect :=
  match note with
  | none => .fault .tooFast
  | some n => if leadTime n t < c.minLead then .fault .tooFast else k (leadTime n t)

/-- The wheel moves on to a state, keeping its notes. -/
def Recog.goes (r : Recog) (st : RecogState) : EdgeEffect := .taken { r with state := st } none

/-- A wheel comes onto its entry sensor: the on-note is written, the off-note absent (R51, R54). -/
def Recog.enters (r : Recog) (st : RecogState) (t : Time) : EdgeEffect :=
  .taken { r with state := st, onNote := some t, offNote := none } none

/-- A wheel frees its entry sensor: the off-note is written, the on-note absent (R53). -/
def Recog.advances (r : Recog) (st : RecogState) (t : Time) : EdgeEffect :=
  .taken { r with state := st, offNote := some t, onNote := none } none

/-- A wheel frees a sensor while moving back: the rock-back tally increments (R55); off the pair, the
on-note becomes absent (R52), from both sensors it is kept (R53). -/
def Recog.rocksBack (r : Recog) (st : RecogState) : EdgeEffect :=
  .taken { r with state := st, onNote := if st = .vacant then none else r.onNote, rockBack := satInc r.rockBack } none

/-- A wheel leaves the pair of slot `k` on its exit side: Δout is measured, the passage record formed (R54, R58 to R60). -/
def Recog.completes (r : Recog) (k : Fin 32) (c : HeadRec) (t : Time) (fromAToB : Bool) : EdgeEffect :=
  measured c r.offNote t fun lead =>
    .taken { r with state := .vacant, offNote := none } (some ⟨k, c.direction fromAToB, c.speed lead, t⟩)

/-- A wheel goes on from its entry sensor onto both: Δin is measured, the on-note kept (R52). -/
def Recog.covers (r : Recog) (c : HeadRec) (t : Time) (st : RecogState) : EdgeEffect :=
  measured c r.onNote t fun _ => r.goes st

/-- The transition an edge at slot `k` calls for: R51 to R54, and EDGE_ORDER for an edge the state refuses (R50). -/
def Recog.take (r : Recog) (k : Fin 32) (c : HeadRec) (sensor : Sensor) (on : Bool) (t : Time) : EdgeEffect :=
  match r.state, sensor, on with
  | .vacant, .a, true => r.enters .aFromA t
  | .vacant, .b, true => r.enters .bFromB t
  | .aFromA, .b, true => r.covers c t .bothFromA
  | .aFromA, .a, false => r.rocksBack .vacant
  | .bFromB, .a, true => r.covers c t .bothFromB
  | .bFromB, .b, false => r.rocksBack .vacant
  | .bothFromA, .a, false => r.advances .bFromA t
  | .bothFromA, .b, false => r.rocksBack .aFromA
  | .bothFromB, .b, false => r.advances .aFromB t
  | .bothFromB, .a, false => r.rocksBack .bFromB
  | .bFromA, .b, false => r.completes k c t true
  | .bFromA, .a, true => r.enters .bothFromA t
  | .aFromB, .a, false => r.completes k c t false
  | .aFromB, .b, true => r.enters .bothFromB t
  | .vacant, _, false => .fault .edgeOrder
  | .aFromA, .a, true => .fault .edgeOrder
  | .aFromA, .b, false => .fault .edgeOrder
  | .bFromB, .b, true => .fault .edgeOrder
  | .bFromB, .a, false => .fault .edgeOrder
  | .bothFromA, _, true => .fault .edgeOrder
  | .bothFromB, _, true => .fault .edgeOrder
  | .bFromA, .b, true => .fault .edgeOrder
  | .bFromA, .a, false => .fault .edgeOrder
  | .aFromB, .a, true => .fault .edgeOrder
  | .aFromB, .b, false => .fault .edgeOrder

end Sys2Proof.Machine
end

