-- ==== Sys2Proof/Machine/Topology.lean ====
section
/-! DEFINITION. Chapter 4: count sources, the sets of the boundary table, and the validation of the tables
at RUN entry. -/

namespace Sys2Proof.Machine

/-! ## Count sources (R64) -/

/-- Count source n for n from 0 to 31 is head slot n. -/
def headSource (k : Fin 32) : Fin 40 := ⟨k.val, by omega⟩

/-- Count source 32 + c is relay channel c. -/
def channelSource (c : Fin 8) : Fin 40 := ⟨32 + c.val, by omega⟩

/-- The head slot of a source, if it is one. -/
def sourceHead (n : Fin 40) : Option (Fin 32) := if h : n.val < 32 then some ⟨n.val, h⟩ else none

/-- The relay channel of a source that is no head slot. -/
def sourceChannel (n : Fin 40) : Fin 8 := ⟨n.val - 32, by omega⟩

/-- A HEAD record holds a head address from 1 to 63. -/
def HeadRec.used (r : HeadRec) : Bool := 1 ≤ r.address.toNat && r.address.toNat ≤ 63

/-- A RELAY record holds a neighbour station from 1 to 239. -/
def RelayRec.used (r : RelayRec) : Bool := 1 ≤ r.station.toNat && r.station.toNat ≤ 239

/-- The source is used (R64). -/
def Tables.sourceUsed (t : Tables) (n : Fin 40) : Bool :=
  match sourceHead n with
  | some k => t.heads[k].used
  | none => t.relays[sourceChannel n].used

/-- The supervision state of a source (R64). -/
def State.sourceState (s : State) (n : Fin 40) : SourceState :=
  match sourceHead n with
  | some k => s.heads[k].state
  | none => s.channels[sourceChannel n].state

/-- The used head slot a node address names (R18, R151). -/
def Tables.slotOfNode (t : Tables) (node : Byte) : Option (Fin 32) :=
  lowest fun k => t.heads[k].used && t.heads[k].address == node

/-! ## The sets of R66 -/

/-- The used entries naming a source, in ascending entry index: the section of each, and its sense. -/
def Tables.entriesOfSource (t : Tables) (n : Fin 40) : List (Fin 24 × Sense) :=
  (List.finRange 96).filterMap fun e =>
    match t.boundaries[e].sec with
    | some k => if t.boundaries[e].source = n then some (k, t.boundaries[e].sense) else none
    | none => none

/-- The boundary sources of a section, in ascending entry index. -/
def Tables.boundarySources (t : Tables) (k : Fin 24) : List (Fin 40) :=
  (List.finRange 96).filterMap fun e =>
    if t.boundaries[e].sec = some k then some t.boundaries[e].source else none

/-! ## Validation (R71 to R77) -/

/-- Check 1: a used slot whose address another used slot also holds (R72). -/
def Tables.offends1 (t : Tables) (k : Fin 32) : Bool :=
  t.heads[k].used && (List.finRange 32).any fun j => j != k && t.heads[j].used && t.heads[j].address == t.heads[k].address

/-- Check 2: a used channel naming the own station, or whose station and head address another used channel
also holds (R73). -/
def Tables.offends2 (t : Tables) (own : Option Byte) (c : Fin 8) : Bool :=
  t.relays[c].used && (own == some t.relays[c].station || (List.finRange 8).any fun d =>
    d != c && t.relays[d].used && t.relays[d].station == t.relays[c].station && t.relays[d].headAddress == t.relays[c].headAddress)

/-- Check 3: a used entry naming a section not in use, or a source not used (R74). -/
def Tables.offends3 (t : Tables) (e : Fin 96) : Bool :=
  match t.boundaries[e].sec with
  | some k => !t.sections[k].inUse || !t.sourceUsed t.boundaries[e].source
  | none => false

/-- The used entries of an entry's source that stand before it. -/
def Tables.earlierEntries (t : Tables) (e : Fin 96) : List BoundaryRec :=
  (List.finRange 96).filterMap fun j =>
    if j < e ∧ t.boundaries[j].sec.isSome ∧ t.boundaries[j].source = t.boundaries[e].source then some t.boundaries[j] else none

/-- Check 4: the third or a later entry of its source, or a second agreeing with the first in section or
in sense (R75). -/
def Tables.offends4 (t : Tables) (e : Fin 96) : Bool :=
  t.boundaries[e].sec.isSome &&
    match t.earlierEntries e with
    | [] => false
    | [b] => b.sec == t.boundaries[e].sec || b.sense == t.boundaries[e].sense
    | _ => true

/-- Check 5: a section in use with no used entry, or with more than 6 (R76). -/
def Tables.offends5 (t : Tables) (k : Fin 24) : Bool :=
  t.sections[k].inUse && ((t.boundarySources k).length == 0 || Config.maxBoundaries < (t.boundarySources k).length)

/-- Check 6: a line with a section function naming a section not in use (R77). -/
def Tables.offends6 (t : Tables) (l : Fin 8) : Bool :=
  match t.lines[l].function with
  | .sectionOut | .restoreIn | .inhibitIn => !t.sections[t.lines[l].sec].inUse
  | .off | .alarmOut => false

/-- Check 7: the interlocking or the maintenance station is 0 (R77). -/
def Tables.offends7 (t : Tables) : Bool := t.part.interlocking == 0 || t.part.maintenance == 0

/-- The detail of a failed validation: check number, table id, index of the lowest offending record (R71). -/
structure Offence where
  check : Byte
  table : Byte
  index : Nat
  deriving DecidableEq, Repr

/-- One check over a table: the lowest offending record. -/
def offenceIn {n : Nat} (check table : Byte) (p : Fin n → Bool) : Option Offence :=
  (lowest p).map fun i => ⟨check, table, i.val⟩

/-- Validation: the seven checks in number order, the first that finds an offending record ends it (R71). -/
def Tables.validate (t : Tables) (own : Option Byte) : Option Offence :=
  (offenceIn 1 2 t.offends1).or <|
  (offenceIn 2 3 (t.offends2 own)).or <|
  (offenceIn 3 5 t.offends3).or <|
  (offenceIn 4 5 t.offends4).or <|
  (offenceIn 5 4 t.offends5).or <|
  (offenceIn 6 7 t.offends6).or <|
  if t.offends7 then some ⟨7, 1, 0⟩ else none

end Sys2Proof.Machine
end

