-- ==== Sys2Proof/Machine/Flags.lean ====
section
/-! DEFINITION. What the part derives from its records: supervision, the warning flag, the shown value, the
reported relay status, the presence and section flags bytes, pin and sensed levels, latch conditions. -/

namespace Sys2Proof.Machine

/-! ## Sources and sections -/

/-- A source is supervised when its state is NORMAL or LATE (R64). -/
def SourceState.supervised : SourceState → Bool
  | .normal | .late => true
  | .off | .awaiting | .lost | .faulty | .inTest => false

/-- The counting states SWEEP, OCCUPIED, SETTLING and CLEAR (R78). -/
def SecState.counting : SecState → Bool
  | .sweep | .occupied | .settling | .clear => true
  | .off | .disturbed | .restoreWait => false

/-- Every boundary source of the section is NORMAL or LATE (R87, R96). -/
def State.allSupervised (s : State) (k : Fin 24) : Bool :=
  (s.tables.boundarySources k).all fun n => (s.sourceState n).supervised

/-- Every boundary source of the section is NORMAL (R112). -/
def State.allNormal (s : State) (k : Fin 24) : Bool :=
  (s.tables.boundarySources k).all fun n => s.sourceState n == .normal

/-- A head holds a health of DEGRADED for a sensor (R100). -/
def HeadRun.degraded (h : HeadRun) : Bool := h.healthA == .degraded || h.healthB == .degraded

/-- A source that keeps the warning on its sections: LATE, or a head holding DEGRADED (R100). -/
def State.sourceWarns (s : State) (n : Fin 40) : Bool :=
  s.sourceState n == .late ||
    match sourceHead n with
    | some k => s.heads[k].degraded
    | none => false

/-- The warning a section in `st` has: clear in OFF, else from all its boundary sources (R100). -/
def State.warningOf (s : State) (k : Fin 24) (st : SecState) : Bool :=
  st != .off && (s.tables.boundarySources k).any s.sourceWarns

/-- The shown value is CLEAR in state CLEAR alone (R81). -/
def SecState.shown (st : SecState) : Byte := if st = .clear then 1 else 0

/-- The flags byte of a VERDICT: repeat and warning (1.2, R142). -/
def SecRun.verdictFlags (r : SecRun) : Byte := flagBit 0 r.repeated ||| flagBit 1 r.warning

/-- The flags byte of a section's STATUS record (1.3, R104). -/
def SecRun.statusFlags (r : SecRun) (owed : Bool) : Byte :=
  flagBit 0 r.swept ||| flagBit 1 r.repeated ||| flagBit 2 r.activity ||| flagBit 3 r.warning ||| flagBit 4 owed

/-- The presence flags of a head slot's STATUS record (R41). -/
def presenceFlags (h : HeadRun) (o : RelayOut) : Byte :=
  flagBit 0 h.expected.isSome ||| flagBit 1 h.anchor.isSome ||| flagBit 2 o.broken

/-! ## Relay-out (R123) -/

/-- The status a relaying head reports (R123). OFF stands outside the rule's table (assumption 10). -/
def reportedStatus (st : SourceState) (broken : Bool) : OriginStatus :=
  if broken then .faulty else
  match st with
  | .normal | .late => .normal
  | .awaiting => .awaiting
  | .lost | .faulty | .inTest | .off => .faulty

/-- The head relays out: its HEAD record names a relay-out station (R60, 7.1). -/
def HeadRec.relays (r : HeadRec) : Bool := r.relayOut != 0

/-! ## Local lines (R177, R178) -/

/-- SECTION_OUT and ALARM_OUT drive the pin. -/
def LineFunction.output : LineFunction → Bool
  | .sectionOut | .alarmOut => true
  | .off | .restoreIn | .inhibitIn => false

/-- The part drives the pin low: an output whose latch, under its polarity, sinks; every pin is released
while the reset pin is low (R177, R181). -/
def State.drivesLow (s : State) (l : Fin 8) : Bool :=
  !s.pins.resetLow && s.tables.lines[l].function.output &&
    match s.tables.lines[l].polarity with
    | .normal => s.lines[l].latch
    | .inverted => !s.lines[l].latch

/-- The level of the pin: open drain with a pull-up, low when the part or the board pulls it low
(chapter 0, "Electrical summary"; assumption 2). -/
def State.pinLow (s : State) (l : Fin 8) : Bool := s.drivesLow l || s.lines[l].board == .low

/-- The sensed level: the pin's level after polarity, whatever the function (R177). -/
def State.sensed (s : State) (l : Fin 8) : Bool :=
  match s.tables.lines[l].polarity with
  | .normal => s.pinLow l
  | .inverted => !s.pinLow l

/-- An output latch's condition (R178); false for a line that is no output. -/
def State.latchCondition (s : State) (l : Fin 8) : Bool :=
  match s.tables.lines[l].function with
  | .sectionOut => s.sections[s.tables.lines[l].sec].state == .clear
  | .alarmOut => s.mode == .config || (List.finRange 24).any fun k =>
      s.tables.part.alarmMask.getLsbD k.val && (s.sections[k].state == .disturbed || s.sections[k].state == .restoreWait)
  | .off | .restoreIn | .inhibitIn => false

/-- Every output latch takes the value of its condition; the others keep theirs (R177, R178). -/
def State.judgeLatches (s : State) : State :=
  s.setLines <| tab fun l =>
    if s.tables.lines[l].function.output then { s.lines[l] with latch := s.latchCondition l } else s.lines[l]

/-- The level a STATUS read gives: the latch of an output, the sensed level of any other line (R177). -/
def State.lineLevel (s : State) (l : Fin 8) : Bool :=
  if s.tables.lines[l].function.output then s.lines[l].latch else s.sensed l

end Sys2Proof.Machine
end

