-- ==== Sys2Proof/Machine/Sections.lean ====
section
/-! DEFINITION. Chapter 5, the section counter, with the restore unit's part in an event (R112): what a
passage, a wheel-activity notice and a source event do to a section. -/

namespace Sys2Proof.Machine

/-! ## One place writes a section record -/

/-- The change is one the verdict trigger names: state, count, cause, repeat flag or warning flag (R103). -/
def SecRun.reportable (old new : SecRun) : Bool :=
  old.state != new.state || old.count != new.count || old.cause != new.cause ||
    old.repeated != new.repeated || old.warning != new.warning

/-- A section record takes new contents. The section becomes owed for a reportable change (R103), its
restore timer stops when it leaves RESTORE_WAIT (R105), and a change of state judges the output latches
in the same event (R178). -/
def State.putSection (s : State) (k : Fin 24) (r : SecRun) : State :=
  let old := s.sections[k]
  let s := s.setSection k r
  let s := if old.reportable r then s.setOwed k true else s
  let s := if old.state = .restoreWait ∧ r.state ≠ .restoreWait then s.setRestoreTimer k none else s
  if old.state ≠ r.state then s.judgeLatches else s

/-! ## Disturbance (R82) -/

/-- The record on entry into DISTURBED: cause, source and time recorded, restore kind absent, repeat clear;
count, tallies, swept and activity kept (R82). -/
def SecRun.disturb (r : SecRun) (c : Cause) (src : Option (Fin 40)) (now : Time) : SecRun :=
  { r with state := .disturbed, cause := some c, causeSource := src, disturbedTime := now,
           restoreKind := none, repeated := false }

/-- A section enters DISTURBED. -/
def State.disturb (s : State) (k : Fin 24) (c : Cause) (src : Option (Fin 40)) : State :=
  s.putSection k (s.sections[k].disturb c src s.partTime)

/-! ## Counting (R84 to R91) -/

/-- The state after a passage counted in (R85). -/
def SecState.afterIn : SecState → SecState
  | .clear => .occupied
  | .settling => .occupied
  | st => st

/-- A passage counted into a section in a counting state (R85). -/
def SecRun.countIn (r : SecRun) (ceiling : Nat) (src : Fin 40) (now : Time) : SecRun :=
  if ceiling < r.count + 1 then r.disturb .countOver (some src) now
  else { r with count := r.count + 1, inTally := satInc r.inTally, state := r.state.afterIn,
                swept := r.swept || r.state == .sweep }

/-- A passage counted out of a section in a counting state; `allSup` is the judgement of its boundary
sources at count zero (R86, R87, R88). -/
def SecRun.countOut (r : SecRun) (allSup : Bool) (src : Fin 40) (now : Time) : SecRun :=
  if r.count = 0 then
    if r.state = .sweep then { r with absorbed := satInc r.absorbed }
    else r.disturb .countUnder (some src) now
  else if r.count = 1 then
    { r with count := 0, outTally := satInc r.outTally, state := if allSup then .clear else .settling, restoreKind := none }
  else { r with count := r.count - 1, outTally := satInc r.outTally }

/-- Wheel activity, by a notice or an uncounted passage, at a section that cannot count (R101). -/
def SecRun.activityAt (r : SecRun) (src : Fin 40) (now : Time) : SecRun :=
  match r.state with
  | .disturbed => { r with activity := true }
  | .restoreWait =>
    if r.restoreKind = some .direct then { r.disturb .restoreAbandoned (some src) now with activity := true } else r
  | .off | .sweep | .occupied | .settling | .clear => r

/-- A wheel-activity notice for source `n` at section `k` (R101). -/
def State.activityAt (s : State) (n : Fin 40) (k : Fin 24) : State :=
  s.putSection k (s.sections[k].activityAt n s.partTime)

/-- A passage of source `n` reaching section `k`, in or out (R84). -/
def State.passageAt (s : State) (n : Fin 40) (k : Fin 24) (inward : Bool) : State :=
  let r := s.sections[k]
  if r.state.counting then
    if inward then s.putSection k (r.countIn s.tables.sections[k].ceiling.toNat n s.partTime)
    else s.putSection k (r.countOut (s.allSupervised k) n s.partTime)
  else s.activityAt n k

/-- The passage direction counts into the entry's section (R67). -/
def Sense.inward : Sense → Direction → Bool
  | .intoOnUp, .up | .intoOnDown, .down => true
  | .intoOnUp, .down | .intoOnDown, .up => false

/-- A passage of source `n` is spread over the used entries naming it, in ascending entry index (R67). -/
def State.passage (s : State) (n : Fin 40) (d : Direction) : State :=
  (s.tables.entriesOfSource n).foldl (fun s e => s.passageAt n e.1 (e.2.inward d)) s

/-- A wheel-activity notice for source `n` reaches every section it bounds (R101). -/
def State.activity (s : State) (n : Fin 40) : State :=
  (s.tables.entriesOfSource n).foldl (fun s e => s.activityAt n e.1) s

/-! ## Source events (R93 to R100) -/

/-- The source events of R40 and R137. -/
inductive SourceEvent where
  /-- adoption, or LOST to NORMAL: becomes supervised and becomes NORMAL -/
  | supervised
  /-- NORMAL to LATE -/
  | late
  /-- LATE to NORMAL -/
  | normal
  /-- becomes LOST, with the loss action -/
  | lost (action : LossAction)
  /-- becomes FAULTY -/
  | faulty
  /-- becomes IN_TEST -/
  | inTest
  /-- a relay channel returned to AWAITING by its origin -/
  | returned
  /-- readmitted to AWAITING -/
  | readmitted
  /-- a head's reported health changed -/
  | healthChanged
  deriving DecidableEq, Repr

/-- The cause of a disturbing event of source `n`, none for an event that is not disturbing (R94, R99). -/
def disturbCause (n : Fin 40) : SourceEvent → Option Cause
  | .faulty => some (if (sourceHead n).isSome then .headFault else .relayFault)
  | .inTest => some .headTest
  | .lost .disturb => some (if (sourceHead n).isSome then .headLost else .relayLost)
  | .returned => some .relayFault
  | .lost .hold | .supervised | .late | .normal | .readmitted | .healthChanged => none

/-- The event leaves the source NORMAL, so that a restore wait is judged (R112). -/
def SourceEvent.toNormal : SourceEvent → Bool
  | .supervised | .normal => true
  | .late | .lost _ | .faulty | .inTest | .returned | .readmitted | .healthChanged => false

/-- What a disturbing event does to a record (R83, R94). -/
def SecRun.disturbing (r : SecRun) (c : Cause) (n : Fin 40) (now : Time) : SecRun :=
  match r.state with
  | .off => r
  | .disturbed => { r with repeated := true }
  | .restoreWait | .sweep | .occupied | .settling | .clear => r.disturb c (some n) now

/-- What a source event of source `n` does to a record (R94 to R98); `allSup` is the judgement of all the
section's boundary sources as they stand. -/
def SecRun.sourceEvent (r : SecRun) (n : Fin 40) (e : SourceEvent) (allSup : Bool) (now : Time) : SecRun :=
  match disturbCause n e with
  | some c => r.disturbing c n now
  | none =>
    match e with
    | .lost _ => if r.state = .clear then { r with state := .settling } else r
    | .supervised => if r.state = .settling ∧ allSup then { r with state := .clear } else r
    | .readmitted => if r.state.counting then r.disturb .readmit (some n) now else r
    | .late | .normal | .healthChanged | .faulty | .inTest | .returned => r

/-- The all-NORMAL condition at a section in RESTORE_WAIT: a sweep restore goes to SWEEP, a direct restore
to CLEAR (R112). -/
def SecRun.restored (r : SecRun) : SecRun :=
  match r.restoreKind with
  | some .direct => { r with state := .clear, count := 0, restoreKind := none }
  | some .sweep | none => { r with state := .sweep, count := 0, swept := false }

/-- The restore unit judges the all-NORMAL condition of a section (R112). -/
def State.judgeRestore (s : State) (k : Fin 24) : State :=
  if s.sections[k].state = .restoreWait ∧ s.allNormal k then s.putSection k s.sections[k].restored else s

/-- The warning flag is judged afresh (R100). -/
def State.judgeWarning (s : State) (k : Fin 24) : State :=
  s.putSection k { s.sections[k] with warning := s.warningOf k s.sections[k].state }

/-- A source event of source `n` at section `k`: the section's own effect, the restore unit's judgement,
the warning flag (R93, R112, R100). -/
def State.sourceEventAt (s : State) (n : Fin 40) (e : SourceEvent) (k : Fin 24) : State :=
  let s := s.putSection k (s.sections[k].sourceEvent n e (s.allSupervised k) s.partTime)
  let s := if e.toNormal then s.judgeRestore k else s
  s.judgeWarning k

/-- A source event is delivered to every section bounded by the source, in ascending entry index (R68). -/
def State.deliver (s : State) (n : Fin 40) (e : SourceEvent) : State :=
  (s.tables.entriesOfSource n).foldl (fun s b => s.sourceEventAt n e b.1) s

end Sys2Proof.Machine
end

