-- ==== Sys2Proof/Machine/Relay.lean ====
section
/-! DEFINITION. Chapter 7, the relay unit: relay-out records and relay frames, relay channels. -/

namespace Sys2Proof.Machine

/-! ## Relay-out (7.1) -/

/-- The status slot `k` reports as its records stand (R123). -/
def State.statusOf (s : State) (k : Fin 32) : OriginStatus := reportedStatus s.heads[k].state s.relayOut[k].broken

/-- The ready flag is set at a change of reported status of a relaying head (R123). -/
def State.noteStatus (s : State) (k : Fin 32) (before : OriginStatus) : State :=
  if s.tables.heads[k].relays ∧ s.statusOf k ≠ before then s.setRelayOut k { s.relayOut[k] with ready := true } else s

/-- A passage joins the pending list and sets the ready flag; with 4 waiting, or the broken flag set, it is
dropped and the broken flag set (R124). -/
def RelayOut.join (r : RelayOut) (p : Passage) : RelayOut :=
  if r.broken ∨ Config.pendingSpace ≤ r.pending.length then { r with broken := true }
  else { r with pending := r.pending ++ [p], ready := true }

/-- A passage of head slot `k` reaches the relay unit, when the head relays out (R60, R124). -/
def State.relayPassage (s : State) (k : Fin 32) (p : Passage) : State :=
  if s.tables.heads[k].relays then
    (s.setRelayOut k (s.relayOut[k].join p)).noteStatus k (s.statusOf k)
  else s

/-- Readmission of a relaying head: sequence 0, list empty, broken flag clear, timer running on (R39, R127). -/
def RelayOut.readmitted (r : RelayOut) : RelayOut := { r with seq := 0, pending := [], broken := false }

/-- A passage as a RELAY frame carries it (1.2). -/
def Passage.bytes (p : Passage) : List Byte := p.dir.code :: bytes16 p.speed

/-- The relay frame of slot `k`, built from its relay-out record as it stands (R126). -/
def State.relayFrame (s : State) (k : Fin 32) : Frame :=
  s.ownFrame s.tables.heads[k].relayOut 0 kindRelay
    ([s.relayOut[k].seq, s.tables.heads[k].address, (s.statusOf k).code, BitVec.ofNat 8 s.relayOut[k].pending.length] ++
      s.relayOut[k].pending.flatMap Passage.bytes)

/-- Taking the frame: ready flag clear, list empty, sequence advanced (R126). -/
def RelayOut.afterTaken (r : RelayOut) : RelayOut := { r with seq := r.seq + 1, pending := [], ready := false }

/-! ## Relay-in (7.2) -/

/-- A sequence number against the expected one: next, repeat of the last accepted, or a gap (R26, R133).
With the expected sequence absent, which no run reaches in the states that ask, every number is a gap. -/
inductive SeqVerdict where
  | next
  | repeated
  | gap
  deriving DecidableEq, Repr

def judgeSeq (expected : Option Byte) (seq : Byte) : SeqVerdict :=
  match expected with
  | none => .gap
  | some e => if seq = e then .next else if seq = e - 1 then .repeated else .gap

/-- The used channel a frame's source station and origin head address match (R131). -/
def Tables.channelOf (t : Tables) (station origin : Byte) : Option (Fin 8) :=
  lowest fun c => t.relays[c].used && t.relays[c].station == station && t.relays[c].headAddress == origin

/-- A channel becomes FAULTY (R136). -/
def Channel.enterFaulty (c : Channel) (why : FaultCause) : Channel :=
  { c with state := .faulty, fault := some why, expected := none, timer := none }

/-- A channel goes to AWAITING: expected sequence and fault cause absent, missed periods 0, timer stopped,
last origin status kept (R134, R136). -/
def Channel.enterAwaiting (c : Channel) : Channel :=
  { c with state := .awaiting, fault := none, expected := none, missed := 0, timer := none }

/-- What a RELAY frame makes of a channel's record (R131 to R134); `t` is the timer as started now. -/
def Channel.frame (c : Channel) (seq : Byte) (status : OriginStatus) (t : Timer) : Channel :=
  match c.state with
  | .awaiting =>
    match status with
    | .normal => { c with state := .normal, expected := some (seq + 1), missed := 0, lastOrigin := .normal, timer := t }
    | .awaiting | .faulty => { c with lastOrigin := status }
  | .normal | .late | .lost =>
    match judgeSeq c.expected seq with
    | .repeated => c
    | .gap => c.enterFaulty .seqGap
    | .next =>
      let a := { c with expected := some (seq + 1), missed := 0, lastOrigin := status, timer := t }
      match status with
      | .normal => { a with state := .normal }
      | .awaiting => a.enterAwaiting
      | .faulty => a.enterFaulty .remoteFault
  | .off | .faulty | .inTest => c

/-- The frame's passages are applied: it adopts the channel, or is accepted with status NORMAL (R132, R134). -/
def Channel.applies (c : Channel) (seq : Byte) (status : OriginStatus) : Bool :=
  status == .normal &&
    match c.state with
    | .awaiting => true
    | .normal | .late | .lost => judgeSeq c.expected seq == .next
    | .off | .faulty | .inTest => false

/-- The source event of a change of channel state made by a frame or a timer (R137). -/
def channelEvent (old new : SourceState) (a : LossAction) : Option SourceEvent :=
  match old, new with
  | .awaiting, .normal => some .supervised
  | .lost, .normal => some .supervised
  | .normal, .late => some .late
  | .late, .normal => some .normal
  | .normal, .lost => some (.lost a)
  | .late, .lost => some (.lost a)
  | .normal, .faulty => some .faulty
  | .late, .faulty => some .faulty
  | .lost, .faulty => some .faulty
  | .normal, .awaiting => some .returned
  | .late, .awaiting => some .returned
  | .lost, .awaiting => some .returned
  | _, _ => none

/-- Delivers an event if there is one. -/
def State.deliverOpt (s : State) (n : Fin 40) : Option SourceEvent → State
  | none => s
  | some e => s.deliver n e

/-- A channel's record changes and the change of state is delivered once (R134, R137). -/
def State.commitChannel (s : State) (c : Fin 8) (r : Channel) : State :=
  (s.setChannel c r).deliverOpt (channelSource c)
    (channelEvent s.channels[c].state r.state s.tables.relays[c].lossAction)

/-- A RELAY frame taken on channel `c`: its record, the delivery, then the passages in list order (R131, R135). -/
def State.channelFrame (s : State) (c : Fin 8) (seq : Byte) (status : OriginStatus) (ps : List PassageOperand) : State :=
  let t := s.commitChannel c (s.channels[c].frame seq status (s.timerAfter (ticks10ms s.tables.relays[c].period)))
  if s.channels[c].applies seq status then
    ps.foldl (fun s p => s.passage (channelSource c) (Direction.ofByte p.direction)) t
  else t

/-- A RELAY frame handed to the relay unit: matched to a used channel, or counted misrouted; in CONFIG a
matched frame is discarded without a tally (R131). -/
def State.relayIn (s : State) (f : Frame) : State :=
  match s.tables.channelOf f.hdr.srcStation (byteAt f.payload 1) with
  | none => s.countMisrouted
  | some c =>
    match s.mode with
    | .config => s
    | .run => s.channelFrame c (byteAt f.payload 0) (OriginStatus.ofByte (byteAt f.payload 2)) (relayPassages f.payload)

/-! ## Channel supervision (R136) -/

/-- LATE, LOST or still LOST after a supervision expiry, by missed periods against the grace (R33, R136). -/
def lateOrLost (old : SourceState) (missed : Nat) (grace : Nat) : SourceState :=
  if old = .lost then .lost else if missed ≤ grace then .late else .lost

/-- A channel's supervision timer expires (R136). -/
def State.channelExpiry (s : State) (c : Fin 8) : State :=
  let r := s.channels[c]
  match r.state with
  | .normal | .late | .lost =>
    if r.timer.due s.partTime then
      s.commitChannel c { r with missed := missInc r.missed, timer := s.timerAfter (ticks10ms s.tables.relays[c].period),
                                 state := lateOrLost r.state (missInc r.missed).val s.tables.relays[c].grace.val }
    else s
  | .off | .awaiting | .faulty | .inTest => s

/-- Readmission of a relay channel, delivered as a source event (R136, R137). -/
def State.readmitChannel (s : State) (c : Fin 8) : State :=
  (s.setChannel c s.channels[c].enterAwaiting).deliver (channelSource c) .readmitted

/-- A relay timer expires: the ready flag is set and the timer restarts with the relay period (R125). -/
def State.relayExpiry (s : State) (k : Fin 32) : State :=
  if s.relayOut[k].timer.due s.partTime then
    s.setRelayOut k { s.relayOut[k] with ready := true, timer := s.timerAfter (ticks10ms s.tables.part.relayPeriod) }
  else s

end Sys2Proof.Machine
end

