-- ==== Sys2Proof/Machine/Heads.lean ====
section
/-! DEFINITION. Chapter 2, the head supervisor, and the passage of a WHEEL frame's edges through the
recognition engine (chapter 3). -/

namespace Sys2Proof.Machine

/-! ## Changes of a head's record -/

/-- The recognition reset of R44 as a change of the head's record. -/
def HeadRun.clearRecog (h : HeadRun) : HeadRun := { h with recog := h.recog.clear }

/-- A head becomes FAULTY: cause recorded, expected sequence absent, timer stopped, recognition reset;
anchor, strikes, counts, missed periods, health and tallies kept (R36, R44). -/
def HeadRun.enterFaulty (h : HeadRun) (why : FaultCause) : HeadRun :=
  { h with state := .faulty, fault := some why, expected := none, timer := none, recog := h.recog.clear }

/-- A head enters IN_TEST: expected sequence absent, timer stopped, missed periods 0, recognition reset;
anchor, strikes, counts, health and tallies kept (R37, R44). -/
def HeadRun.enterTest (h : HeadRun) : HeadRun :=
  { h with state := .inTest, expected := none, timer := none, missed := 0, recog := h.recog.clear }

/-- Readmission: AWAITING with fault cause, expected sequence and anchor absent, counts, missed periods and
strikes 0, recognition reset, timer stopped; health and tallies kept (R39). RUN entry sets a used slot
the same way (R22). -/
def HeadRun.enterAwaiting (h : HeadRun) : HeadRun :=
  { h with state := .awaiting, fault := none, expected := none, anchor := none, recvA := 0, recvB := 0,
           missed := 0, strikes := 0, timer := none, recog := h.recog.clear }

/-- The change to CONFIG: OFF with the values of R21, health and tallies kept. -/
def HeadRun.enterOff (h : HeadRun) : HeadRun := { h.enterAwaiting with state := .off }

/-- A frame in sequence is accepted: chain advanced, NORMAL, missed periods 0, timer restarted (R26). -/
def HeadRun.accept (h : HeadRun) (seq : Byte) (t : Timer) : HeadRun :=
  { h with expected := some (seq + 1), state := .normal, missed := 0, timer := t }

/-- A frame repeated: the repeat tally increments (R26). -/
def HeadRun.repeated (h : HeadRun) : HeadRun := { h with repeats := satInc h.repeats }

/-! ## Delivery (R40) -/

/-- The source event of a change of head state (R40). -/
def headEvent (old new : SourceState) (a : LossAction) : Option SourceEvent :=
  match old, new with
  | .awaiting, .normal => some .supervised
  | .inTest, .normal => some .supervised
  | .lost, .normal => some .supervised
  | .normal, .late => some .late
  | .late, .normal => some .normal
  | .normal, .lost => some (.lost a)
  | .late, .lost => some (.lost a)
  | .normal, .faulty => some .faulty
  | .late, .faulty => some .faulty
  | .lost, .faulty => some .faulty
  | .awaiting, .inTest => some .inTest
  | .normal, .inTest => some .inTest
  | .late, .inTest => some .inTest
  | .lost, .inTest => some .inTest
  | .faulty, .awaiting => some .readmitted
  | .lost, .awaiting => some .readmitted
  | _, _ => none

/-- A head's record changes: the relay unit sees the change of reported status (R123), a health change is
delivered first, then the one state event from the state before to the state after (R40). -/
def State.commitHead (s : State) (k : Fin 32) (h : HeadRun) : State :=
  let old := s.heads[k]
  let t := (s.setHead k h).noteStatus k (s.statusOf k)
  let t := if old.healthA ≠ h.healthA ∨ old.healthB ≠ h.healthB then t.deliver (headSource k) .healthChanged else t
  t.deliverOpt (headSource k) (headEvent old.state h.state s.tables.heads[k].lossAction)

/-! ## LIFE frames (R23 to R31, R38) -/

/-- The fields of a LIFE payload (1.2). -/
structure LifeFields where
  seq : Byte
  stamp : Half
  tallyA : Byte
  tallyB : Byte
  stateByte : Byte
  deriving DecidableEq, Repr

def LifeFields.healthA (f : LifeFields) : Health := .ofBits (f.stateByte.extractLsb' 0 2)
def LifeFields.healthB (f : LifeFields) : Health := .ofBits (f.stateByte.extractLsb' 2 2)
def LifeFields.test (f : LifeFields) : Bool := f.stateByte.getLsbD 4
def LifeFields.covered (f : LifeFields) : Bool := f.stateByte.getLsbD 5 || f.stateByte.getLsbD 6
def LifeFields.anyFailed (f : LifeFields) : Bool := f.healthA == .failed || f.healthB == .failed

/-- Health A and health B take the reported values. -/
def HeadRun.withHealth (h : HeadRun) (f : LifeFields) : HeadRun := { h with healthA := f.healthA, healthB := f.healthB }

/-- The LIFE adopts: test flag clear, neither sensor covered, neither health FAILED (R24). -/
def LifeFields.adopts (f : LifeFields) : Bool := !f.test && !f.covered && !f.anyFailed

/-- Adoption (R24): chain, counts, anchor and health from the LIFE, strikes and missed periods 0, NORMAL,
recognition reset (R44), the supervision timer started. -/
def HeadRun.adopt (h : HeadRun) (f : LifeFields) (now : Time) (t : Timer) : HeadRun :=
  { h with expected := some (f.seq + 1), recvA := f.tallyA, recvB := f.tallyB,
           anchor := some ⟨f.stamp.zeroExtend 32, now⟩, strikes := 0, missed := 0, fault := none,
           healthA := f.healthA, healthB := f.healthB, state := .normal, recog := h.recog.clear, timer := t }

/-- A LIFE in AWAITING or IN_TEST: an adoption attempt, or a LIFE under test (R24, R25, R38). -/
def HeadRun.attempt (h : HeadRun) (f : LifeFields) (now : Time) (t : Timer) : HeadRun :=
  if f.adopts then h.adopt f now t
  else if f.test ∧ h.state = .awaiting then (h.withHealth f).enterTest
  else h.withHealth f

/-- The allowance of the clock check: floor(P / 32) + 50 ticks (R30). -/
def allowance (p : Nat) : Nat := p / Config.clockDivisor + Config.clockFloor

/-- Strikes increase by one, up to 3. -/
def strikeInc (n : Fin 4) : Fin 4 := if h : n.val < Config.maxStrikes then ⟨n.val + 1, by simp only [Config.maxStrikes] at h; omega⟩ else n

/-- The anchor a LIFE is checked against. A head in NORMAL, LATE or LOST has one; a state without it, which
no run reaches, is read as a stale anchor at the LIFE's own stamp (assumption 10). -/
def HeadRun.anchorFor (h : HeadRun) (stamp : Half) (now : Time) : Anchor :=
  h.anchor.getD ⟨stamp.zeroExtend 32 - BitVec.ofNat 32 (Config.staleTicks + 1), now - BitVec.ofNat 32 (Config.staleTicks + 1)⟩

/-- The extended head time of an accepted LIFE: E itself on a stale anchor, else E + r (R29). -/
def lifeTime (a : Anchor) (now : Time) (stamp : Half) : Time :=
  if a.stale now then a.expectedTime now else a.place now stamp

/-- The clock strikes after the clock check: unchanged when it is skipped, 0 within the allowance, one more
above it (R30). -/
def strikesAfter (a : Anchor) (now : Time) (stamp : Half) (old : Fin 4) : Fin 4 :=
  if a.stale now then old
  else if (a.deviation now stamp).natAbs ≤ allowance (a.advance now) then 0
  else strikeInc old

/-- The clock check was made and failed with 3 strikes (R28 step 3, R30). -/
def clockFails (a : Anchor) (now : Time) (stamp : Half) (old : Fin 4) : Bool :=
  !a.stale now && allowance (a.advance now) < (a.deviation now stamp).natAbs && (strikeInc old).val == Config.maxStrikes

/-- The clock check and the move of the anchor, with the raising of the held times (R30, R31, R49). -/
def HeadRun.moveAnchor (h : HeadRun) (stamp : Half) (now : Time) : HeadRun :=
  let a := h.anchorFor stamp now
  { h with strikes := strikesAfter a now stamp h.strikes, anchor := some ⟨lifeTime a now stamp, now⟩,
           recog := h.recog.raise (lifeTime a now stamp) }

/-- The checks of an accepted LIFE, the first failing step ends them (R28). -/
def HeadRun.lifeChecks (h : HeadRun) (f : LifeFields) (now : Time) : HeadRun :=
  let g := h.withHealth f
  if f.anyFailed then g.enterFaulty .sensorFailed
  else if f.tallyA ≠ g.recvA ∨ f.tallyB ≠ g.recvB then g.enterFaulty .edgeTally
  else if clockFails (g.anchorFor f.stamp now) now f.stamp g.strikes then (g.moveAnchor f.stamp now).enterFaulty .clock
  else if f.test then (g.moveAnchor f.stamp now).enterTest
  else g.moveAnchor f.stamp now

/-- What a LIFE frame makes of a head's record (R23); `t` is the supervision timer as started now. -/
def HeadRun.life (h : HeadRun) (f : LifeFields) (now : Time) (t : Timer) : HeadRun :=
  match h.state with
  | .awaiting | .inTest => h.attempt f now t
  | .normal | .late | .lost =>
    match judgeSeq h.expected f.seq with
    | .repeated => h.repeated
    | .gap => h.enterFaulty .seqGap
    | .next => (h.accept f.seq t).lifeChecks f now
  | .off | .faulty => h

/-- The supervision timer of slot `k` as it starts now, for the slot's report period (2.8). -/
def State.headTimer (s : State) (k : Fin 32) : Timer := s.timerAfter (ticks10ms s.tables.heads[k].reportPeriod)

/-- A LIFE frame handed to the head supervisor for slot `k`, one event (R23, R28). -/
def State.lifeFrame (s : State) (k : Fin 32) (f : LifeFields) : State :=
  s.commitHead k (s.heads[k].life f s.partTime (s.headTimer k))

/-! ## WHEEL frames (R27, R32) and their edges (R45 to R61) -/

/-- The received counts advance by the frame's edge records (R27). -/
def HeadRun.countEdges (h : HeadRun) (es : List EdgeOperand) : HeadRun :=
  { h with recvA := h.recvA + BitVec.ofNat 8 (es.countP fun e => sensorOf e == .a),
           recvB := h.recvB + BitVec.ofNat 8 (es.countP fun e => sensorOf e == .b) }

/-- The record after an admitted edge: the transition's, with the last edge time (R45 step 4). -/
def HeadRun.edgeTaken (h : HeadRun) (r : Recog) (t : Time) : HeadRun := { h with recog := { r with lastEdge := some t } }

/-- A passage record is delivered to the section counter, which reads its source and direction, and to the
relay unit, which reads its direction and speed; neither reads the completion time (R60). -/
def State.deliverPassage (s : State) : Option PassageRecord → State
  | none => s
  | some p => (s.passage (headSource p.source) p.dir).relayPassage p.source p.relayed

/-- The placement of an edge: the first edge of a frame against the anchor, a later one against the edge
before it (R46, R47). -/
def edgeTime (a : Anchor) (now : Time) (before : Option (Time × Half)) (stamp : Half) : Time :=
  match before with
  | none => a.place now stamp
  | some (t, ts) => laterEdge t ts stamp

/-- One edge at the engine: what it does to the record, the time-order check of a first edge first (R45). -/
def State.edgeEffect (s : State) (k : Fin 32) (first : Bool) (e : EdgeOperand) (t : Time) : EdgeEffect :=
  if first && runsBackwards s.heads[k].recog.lastEdge t then .fault .edgeOrder
  else s.heads[k].recog.take k s.tables.heads[k] (sensorOf e) (edgeIsOn e) t

/-- The edges of a frame through the engine, in list order, each with its wheel-activity notice first
(R101); a failing edge makes the head FAULTY and ends the frame (R61). -/
def State.edges (s : State) (k : Fin 32) (a : Anchor) (before : Option (Time × Half)) : List EdgeOperand → State
  | [] => s
  | e :: es =>
    let t := edgeTime a s.partTime before e.stamp
    let s1 := s.activity (headSource k)
    match s1.edgeEffect k before.isNone e t with
    | .fault why => s1.commitHead k (s1.heads[k].enterFaulty why)
    | .taken r p => ((s1.setHead k (s1.heads[k].edgeTaken r t)).deliverPassage p).edges k a (some (t, e.stamp)) es

/-- A WHEEL frame in sequence: counts, test flag, stale anchor, then the edges with the head NORMAL (R32).
An absent anchor, which no run reaches here, is read as stale (assumption 10). -/
def State.wheelAccepted (s : State) (k : Fin 32) (seq flags : Byte) (es : List EdgeOperand) : State :=
  let h := (s.heads[k].accept seq (s.headTimer k)).countEdges es
  if flags.getLsbD 0 then s.commitHead k h.enterTest
  else
    match h.anchor with
    | none => s.commitHead k (h.enterFaulty .timeAnchor)
    | some a =>
      if a.stale s.partTime then s.commitHead k (h.enterFaulty .timeAnchor)
      else (s.commitHead k h).edges k a none es

/-- A WHEEL frame handed to the head supervisor for slot `k`, one event (R23, R26, R32). -/
def State.wheelFrame (s : State) (k : Fin 32) (seq flags : Byte) (es : List EdgeOperand) : State :=
  match s.heads[k].state with
  | .normal | .late | .lost =>
    match judgeSeq s.heads[k].expected seq with
    | .repeated => s.commitHead k s.heads[k].repeated
    | .gap => s.commitHead k (s.heads[k].enterFaulty .seqGap)
    | .next => s.wheelAccepted k seq flags es
  | .off | .awaiting | .faulty | .inTest => s

/-! ## Supervision, test, readmission -/

/-- A head's supervision timer expires (R33, R34). -/
def State.headExpiry (s : State) (k : Fin 32) : State :=
  let h := s.heads[k]
  match h.state with
  | .normal | .late | .lost =>
    if h.timer.due s.partTime then
      s.commitHead k { h with missed := missInc h.missed, timer := s.headTimer k,
                              state := lateOrLost h.state (missInc h.missed).val s.tables.heads[k].grace.val }
    else s
  | .off | .awaiting | .faulty | .inTest => s

/-- A head addressed by a queued TEST_START enters IN_TEST from AWAITING, NORMAL, LATE or LOST (R37, R153). -/
def State.testHead (s : State) (k : Fin 32) : State :=
  match s.heads[k].state with
  | .awaiting | .normal | .late | .lost => s.commitHead k s.heads[k].enterTest
  | .off | .faulty | .inTest => s

/-- Readmission of a head: its record, its relay-out record, the delivery (R39, R127). -/
def State.readmitHead (s : State) (k : Fin 32) : State :=
  let t := s.setHead k s.heads[k].enterAwaiting
  let t := t.setRelayOut k t.relayOut[k].readmitted
  (t.noteStatus k (s.statusOf k)).deliver (headSource k) .readmitted

/-- Readmission of a count source that is FAULTY or LOST; any other state is left (R39, R111, R136). -/
def State.readmitBroken (s : State) (n : Fin 40) : State :=
  match s.sourceState n with
  | .faulty | .lost =>
    match sourceHead n with
    | some k => s.readmitHead k
    | none => s.readmitChannel (sourceChannel n)
  | .off | .awaiting | .normal | .late | .inTest => s

end Sys2Proof.Machine
end

