-- ==== Sys2Proof/Machine/Restore.lean ====
section
/-! DEFINITION. Chapter 6, the restore unit: the refusal checks, acceptance, cancel, timeout, and the
restore a local line asks for. -/

namespace Sys2Proof.Machine

/-- An INHIBIT_IN line naming the section is active (R107 check 3, R180). -/
def State.inhibited (s : State) (k : Fin 24) : Bool :=
  (List.finRange 8).any fun l =>
    s.tables.lines[l].function == .inhibitIn && s.tables.lines[l].sec == k && s.sensed l

/-- The causes eligible for direct restore (R109). -/
def Cause.eligible : Cause → Bool
  | .start | .restart | .headLost | .relayLost | .cancelled | .restoreTimeout => true
  | .countOver | .countUnder | .headFault | .relayFault | .headTest | .readmit | .restoreAbandoned => false

/-- The section is eligible for direct restore (R109). -/
def State.directEligible (s : State) (k : Fin 24) : Bool :=
  s.tables.sections[k].directPermitted && (match s.sections[k].cause with | some c => c.eligible | none => false) &&
    !s.sections[k].repeated && !s.sections[k].activity

/-- Less than 2 s has passed since the section entered DISTURBED (R108). -/
def State.tooSoon (s : State) (k : Fin 24) : Bool := (s.partTime - s.sections[k].disturbedTime).toNat < Config.tooSoonTicks

/-- The section a section number names: up to 23 and in use (R107 check 2). -/
def State.sectionNamed (s : State) (n : Nat) : Option (Fin 24) :=
  if h : n < 24 then (if s.tables.sections[n].inUse then some ⟨n, h⟩ else none) else none

/-- What the checks give: a refusal or the section. -/
inductive RestoreVerdict where
  | refused (r : Result)
  | accepted (k : Fin 24)
  deriving DecidableEq, Repr

/-- Checks 3 to 7 at a section (R107). -/
def State.restoreChecks (s : State) (kind : RestoreKind) (k : Fin 24) : Option Result :=
  if s.inhibited k then some .inhibited
  else if s.sections[k].state = .restoreWait ∨ s.sections[k].state = .sweep then some .busy
  else if s.sections[k].state ≠ .disturbed then some .wrongState
  else if s.tooSoon k then some .tooSoon
  else if kind = .direct ∧ !s.directEligible k then some .notEligible
  else none

/-- The refusal checks of R107 in order; a local line's sweep meets checks 1 to 6 (R117). -/
def State.judgeRestoreOrder (s : State) (kind : RestoreKind) (n : Nat) : RestoreVerdict :=
  if s.mode = .config then .refused .wrongMode else
  match s.sectionNamed n with
  | none => .refused .range
  | some k =>
    match s.restoreChecks kind k with
    | some r => .refused r
    | none => .accepted k

/-- The record at acceptance: count, tallies, flags and cause cleared, RESTORE_WAIT with its kind; warning and
disturbed time kept (R110 steps 1 and 2). -/
def SecRun.acceptRestore (r : SecRun) (kind : RestoreKind) : SecRun :=
  { r with count := 0, inTally := 0, outTally := 0, absorbed := 0, swept := false, repeated := false,
           activity := false, cause := none, causeSource := none, state := .restoreWait, restoreKind := some kind }

/-- The restore timer as it starts now, with the section's restore wait limit (R105). -/
def State.restoreTimer (s : State) (k : Fin 24) : Timer :=
  s.timerAfter (s.tables.sections[k].waitLimit.toNat * Config.ticksPerSecond)

/-- Acceptance of a restore, steps 1 to 4 (R110, R111, R112). -/
def State.acceptRestore (s : State) (kind : RestoreKind) (k : Fin 24) : State :=
  let t := (s.putSection k (s.sections[k].acceptRestore kind)).setRestoreTimer k (s.restoreTimer k)
  ((s.tables.boundarySources k).foldl State.readmitBroken t).judgeRestore k

/-- The checks of RESTORE_CANCEL (R116). -/
def State.judgeCancel (s : State) (n : Nat) : RestoreVerdict :=
  if s.mode = .config then .refused .wrongMode else
  match s.sectionNamed n with
  | none => .refused .range
  | some k => if s.sections[k].state = .restoreWait ∨ s.sections[k].state = .sweep then .accepted k else .refused .wrongState

/-- The restore timer of a section expires in RESTORE_WAIT (R113). -/
def State.restoreExpiry (s : State) (k : Fin 24) : State :=
  if s.sections[k].state = .restoreWait ∧ s.restoreTimers[k].due s.partTime then s.disturb k .restoreTimeout none else s

/-- A completed RESTORE_IN activation is taken as a sweep restore, without an answer (R117). -/
def State.localRestore (s : State) (k : Fin 24) : State :=
  match s.judgeRestoreOrder .sweep k.val with
  | .refused _ => s
  | .accepted k => s.acceptRestore .sweep k

end Sys2Proof.Machine
end

