-- ==== Sys2Proof/Machine/LocalLines.lean ====
section
/-! DEFINITION. Chapter 11, the inputs of the local lines: activations of RESTORE_IN and level changes. -/

namespace Sys2Proof.Machine

/-- The activation of a line is dropped: SPENT when a RESTORE_IN line is sensed active, else IDLE; the timer
stops (R179). -/
def State.dropped (s : State) (l : Fin 8) : LineRun :=
  { s.lines[l] with
      activation := if s.tables.lines[l].function = .restoreIn ∧ s.sensed l then .spent else .idle, timer := none }

/-- Every line's activation is dropped (R179). -/
def State.dropActivations (s : State) : State := s.setLines (tab s.dropped)

/-- The activation after a change of sensed level (R179); `t` is the 500 ms timer as started now. -/
def LineRun.levelChanged (l : LineRun) (active : Bool) (t : Timer) : LineRun :=
  match l.activation, active with
  | .idle, true => { l with activation := .timing, timer := t }
  | .timing, false => { l with activation := .idle, timer := none }
  | .spent, false => { l with activation := .idle }
  | .timing, true => l
  | .spent, true => l
  | .idle, false => l

/-- The board changes the level it puts on a pin; a RESTORE_IN line whose sensed level changes with it
starts or ends its activation (R177, R179). -/
def State.levelChange (s : State) (l : Fin 8) (level : PinLevel) : State :=
  let t := s.setLine l { s.lines[l] with board := level }
  if s.tables.lines[l].function = .restoreIn ∧ t.sensed l ≠ s.sensed l ∧ !s.pins.resetLow then
    t.setLine l (t.lines[l].levelChanged (t.sensed l) (s.timerAfter Config.activationTicks))
  else t

/-- The 500 ms timer of a RESTORE_IN line expires: SPENT, and a sweep restore is handed on (R179, R117). -/
def State.activationExpiry (s : State) (l : Fin 8) : State :=
  if s.tables.lines[l].function = .restoreIn ∧ s.lines[l].activation = .timing ∧ s.lines[l].timer.due s.partTime then
    (s.setLine l { s.lines[l] with activation := .spent, timer := none }).localRestore s.tables.lines[l].sec
  else s

end Sys2Proof.Machine
end

