-- ==== Sys2Proof/Machine/Reset.lean ====
section
/-! DEFINITION. The whole-part events: RUN entry, the change to CONFIG, soft restart, hardware reset and the
reset pin (R21, R22, R79, R80, R122, R130, R139, R165, R166, R181, R182). -/

namespace Sys2Proof.Machine

/-- The round timer as it starts now, with the round period of the PART record (R144). -/
def State.roundTimer (s : State) : Timer := s.timerAfter (s.tables.part.roundPeriod.toNat * Config.ticksPer100ms)

/-- A relaying head's relay-out record at RUN entry (R122). -/
def RelayOut.enterRun (r : RelayOut) (t : Timer) : RelayOut :=
  { r with seq := 0, pending := [], broken := false, ready := true, timer := t }

/-- A used channel at RUN entry (R130). -/
def Channel.enterRun (c : Channel) : Channel := c.enterAwaiting

/-- A section record at RUN entry: count, tallies, swept, repeat and activity cleared; in use, DISTURBED with
the cause and no source (R80). -/
def SecRun.enterRun (r : SecRun) (inUse : Bool) (c : Cause) (now : Time) : SecRun :=
  let r := { r with count := 0, inTally := 0, outTally := 0, absorbed := 0, swept := false, repeated := false, activity := false }
  if inUse then r.disturb c none now else r

/-- RUN entry at every block, with cause START, or RESTART when a soft restart repeats it (R22, R80, R122,
R130, R140). -/
def State.runEntry (s : State) (c : Cause) : State :=
  { s with
      heads := tab fun k => if s.tables.heads[k].used then s.heads[k].enterAwaiting else s.heads[k]
      relayOut := tab fun k =>
        if s.tables.heads[k].used && s.tables.heads[k].relays then
          s.relayOut[k].enterRun (s.timerAfter (ticks10ms s.tables.part.relayPeriod))
        else s.relayOut[k]
      channels := tab fun c => if s.tables.relays[c].used then s.channels[c].enterRun else s.channels[c]
      sections := tab fun k => s.sections[k].enterRun s.tables.sections[k].inUse c s.partTime
      notice := { s.notice with owed := tab fun k => s.notice.owed[k] || s.tables.sections[k].inUse } }

/-- The warning flag of each section in use is judged at RUN entry (R80, R100). -/
def State.judgeWarnings (s : State) : State :=
  { s with sections := tab fun k =>
      if s.tables.sections[k].inUse then { s.sections[k] with warning := s.warningOf k s.sections[k].state } else s.sections[k] }

/-- The change from CONFIG to RUN once validation has passed (R165, R148, R179, R178). -/
def State.enterRun (s : State) : State :=
  let s := ((s.setMode .run).runEntry .start).judgeWarnings
  ((s.setNotice { s.notice with hold := .free }).dropActivations).judgeLatches

/-- A section record at the change to CONFIG: tallies and disturbed time kept (R79). -/
def SecRun.enterConfig (r : SecRun) : SecRun :=
  { r with state := .off, count := 0, cause := none, causeSource := none, restoreKind := none,
           swept := false, repeated := false, activity := false, warning := false }

/-- A channel at the change to CONFIG: the last origin status kept (R130). -/
def Channel.enterConfig (c : Channel) : Channel := { c.enterAwaiting with state := .off }

/-- The change from RUN to CONFIG at every block (R166). -/
def State.enterConfig (s : State) : State :=
  let s := { s with
      mode := .config
      heads := tab fun k => s.heads[k].enterOff
      relayOut := Vector.replicate 32 .reset
      channels := tab fun c => s.channels[c].enterConfig
      sections := tab fun k => s.sections[k].enterConfig
      restoreTimers := Vector.replicate 24 none
      notice := { s.notice with owed := Vector.replicate 24 false, hold := .free } }
  s.dropActivations.judgeLatches

/-- The values every block takes at a soft restart, before RUN entry is repeated: those of hardware reset but
for the tables, the mode, the pins, part time and a frame in transmission (R182). -/
def State.restartValues (s : State) : State :=
  { s with
      pendingRestart := false
      tallies := .reset
      fieldPort := { s.fieldPort with orders := [] }
      linePort := { LinePort.reset with tx := s.linePort.tx }
      heads := Vector.replicate 32 .reset
      relayOut := Vector.replicate 32 .reset
      channels := Vector.replicate 8 .reset
      sections := Vector.replicate 24 .reset
      restoreTimers := Vector.replicate 24 none
      notice := ⟨Vector.replicate 24 false, .free, s.roundTimer, false⟩
      watch := .reset
      lines := tab fun l => { s.lines[l] with latch := false } }

/-- A soft restart, one event at every block (R182). -/
def State.softRestart (s : State) : State :=
  let s := s.restartValues.dropActivations
  let s := match s.mode with
    | .run => (s.runEntry .restart).judgeWarnings
    | .config => s
  s.judgeLatches

/-- A hardware reset released with these pins: every block at its hardware-reset values (R181). The commands
still waiting and the levels the board puts on the local lines are not the part's, and stay. -/
def State.hardwareReset (s : State) (straps : Byte) (ratePin : PinLevel) : State :=
  { State.atReset straps ratePin with
      pending := s.pending
      lines := tab fun l => { LineRun.reset with board := s.lines[l].board } }

/-- The reset pin driven low: the ports stop, frames in transmission are cut off, every local line pin is
released (R181; `State.drivesLow` reads the pin). -/
def State.resetLow (s : State) : State :=
  { s with
      pins := { s.pins with resetLow := true }
      fieldPort := { s.fieldPort with tx := none }
      linePort := { s.linePort with tx := none } }

/-- A transmitted or discarded frame counts as sent: the answer to a pending RESTART starts the soft restart
(R173, R182). -/
def State.afterSent (s : State) (o : Outgoing) : State :=
  if o.restart ∧ s.pendingRestart then s.softRestart else s

/-- Entering DOWN: answers, forwarded frames and unsent WATCH notices are dropped, the silence timer stops
(R8, R9); a RESTART whose answer was still queued lapses with it (R174). -/
def State.enterDown (s : State) : State :=
  let lapses := s.linePort.answers.any (·.restart)
  { s with
      pendingRestart := s.pendingRestart && !lapses
      linePort := { s.linePort with link := .down, silence := none, answers := [], forward := [] }
      watch := { s.watch with notices := [] } }

/-- The silence timer expires (R8). -/
def State.silenceExpiry (s : State) : State :=
  if s.linePort.silence.due s.partTime then s.enterDown else s

/-- The round timer expires: the round ready flag is set, the timer restarts (R144). -/
def State.roundExpiry (s : State) : State :=
  if s.notice.roundTimer.due s.partTime then
    s.setNotice { s.notice with roundReady := true, roundTimer := s.roundTimer }
  else s

end Sys2Proof.Machine
end

