-- ==== Sys2Proof/Machine/Notices.lean ====
section
/-! DEFINITION. Chapter 8: the VERDICT and ROUND frames, built from the records as they stand. -/

namespace Sys2Proof.Machine

/-- A section count as two bytes. -/
def countBytes (n : Nat) : List Byte := bytes16 (BitVec.ofNat 16 n)

/-- The payload of the VERDICT of section `k` (1.2, R142). -/
def verdictPayload (k : Fin 24) (r : SecRun) : List Byte :=
  [BitVec.ofNat 8 k.val, r.state.shown, r.state.code] ++ countBytes r.count ++ bytes16 r.inTally ++
    bytes16 r.outTally ++ bytes16 r.absorbed ++
    [codeOr0 Cause.code r.cause, sourceCode r.causeSource, r.verdictFlags, codeOr0 RestoreKind.code r.restoreKind]

/-- The VERDICT of section `k`, to the interlocking station (R142, R6). -/
def State.verdictFrame (s : State) (k : Fin 24) : Frame :=
  s.ownFrame s.tables.part.interlocking 0 kindVerdict (verdictPayload k s.sections[k])

/-- The ROUND frame, to the interlocking station (R145, R6). -/
def State.roundFrame (s : State) : Frame :=
  s.ownFrame s.tables.part.interlocking 0 kindRound
    ([s.mode.code, 24] ++ (List.finRange 24).map fun k => s.sections[k].state.code)

end Sys2Proof.Machine
end

