-- ==== Sys2Proof/Machine/Tables.lean ====
section
/-! DEFINITION. The table records of 1.4 as bytes: the range checks of R168, the records a WRITE replaces,
the records a READ returns. -/

namespace Sys2Proof.Machine

/-! ## Reading a record of a WRITE: the record, or the lowest field out of range (1.4, R168) -/

/-- The lowest field whose check fails. -/
def firstBad (checks : List (Nat × Bool)) : Option Nat := (checks.find? fun c => !c.2).map (·.1)

/-- A field of `lo` to `hi`. -/
def inRange (lo hi n : Nat) : Bool := lo ≤ n && n ≤ hi

/-- A station: 0 for none, or 1 to 239. -/
def stationOk (b : Byte) : Bool := b.toNat ≤ 239

/-- The pass window: both ends 0, or both in 1 to 63 with the first at most the last (R168). -/
def windowOk (first last : Byte) : Bool :=
  (first == 0 && last == 0) || (inRange 1 63 first.toNat && inRange 1 63 last.toNat && first.toNat ≤ last.toNat)

/-- A record read from its bytes, or the number of the lowest field out of range. -/
def readRecord {α : Type} (checks : List (Nat × Bool)) (r : α) : Except Nat α :=
  match firstBad checks with
  | some f => .error f
  | none => .ok r

def lossOfBit (b : Bool) : LossAction := if b then .disturb else .hold
/-- The grace of a field value within 0 to 3. -/
def graceOf (b : BitVec 2) : Fin 4 := b.toFin

def PartRec.parse (b : List Byte) : Except Nat PartRec :=
  readRecord
    [(0, stationOk (byteAt b 0)), (1, stationOk (byteAt b 1)), (2, stationOk (byteAt b 2)),
     (4, windowOk (byteAt b 3) (byteAt b 4)), (5, inRange 10 200 (byteAt b 5).toNat),
     (6, inRange 5 100 (byteAt b 6).toNat), (7, inRange 2 50 (byteAt b 7).toNat)]
    ⟨byteAt b 0, byteAt b 1, byteAt b 2, byteAt b 3, byteAt b 4, byteAt b 5, byteAt b 6, byteAt b 7,
     byteAt b 8 ++ byteAt b 9 ++ byteAt b 10⟩

def HeadRec.parse (b : List Byte) : Except Nat HeadRec :=
  readRecord
    [(0, inRange 0 63 (byteAt b 0).toNat), (1, inRange 80 300 (halfAt b 1).toNat), (2, inRange 0 7 (byteAt b 3).toNat),
     (3, inRange 2 50 (byteAt b 4).toNat), (4, inRange 0 3 (byteAt b 5).toNat),
     (5, inRange 20 400 (halfAt b 6).toNat), (6, stationOk (byteAt b 8))]
    ⟨byteAt b 0, halfAt b 1, (byteAt b 3).getLsbD 0, lossOfBit ((byteAt b 3).getLsbD 1), (byteAt b 3).getLsbD 2,
     byteAt b 4, graceOf ((byteAt b 5).truncate 2), halfAt b 6, byteAt b 8⟩

def RelayRec.parse (b : List Byte) : Except Nat RelayRec :=
  readRecord
    [(0, stationOk (byteAt b 0)), (1, inRange 1 63 (byteAt b 1).toNat), (2, inRange 5 100 (byteAt b 2).toNat),
     (3, (byteAt b 3).extractLsb' 2 5 == 0)]
    ⟨byteAt b 0, byteAt b 1, byteAt b 2, graceOf ((byteAt b 3).truncate 2), lossOfBit ((byteAt b 3).getLsbD 7)⟩

def SectionRec.parse (b : List Byte) : Except Nat SectionRec :=
  readRecord
    [(0, inRange 0 3 (byteAt b 0).toNat), (1, inRange 1 4095 (halfAt b 1).toNat), (2, inRange 5 120 (byteAt b 3).toNat)]
    ⟨(byteAt b 0).getLsbD 0, (byteAt b 0).getLsbD 1, halfAt b 1, byteAt b 3⟩

/-- A section field of 0 to 23; 255 and every other value name none. -/
def sectionOfByte (b : Byte) : Option (Fin 24) := if h : b.toNat < 24 then some ⟨b.toNat, h⟩ else none

def BoundaryRec.parse (b : List Byte) : Except Nat BoundaryRec :=
  readRecord
    [(0, inRange 0 23 (byteAt b 0).toNat || byteAt b 0 == 255), (1, inRange 0 39 (byteAt b 1).toNat),
     (2, inRange 0 1 (byteAt b 2).toNat)]
    ⟨sectionOfByte (byteAt b 0), Fin.ofNat 40 (byteAt b 1).toNat, if (byteAt b 2).getLsbD 0 then .intoOnDown else .intoOnUp⟩

def FilterRec.parse (b : List Byte) : Except Nat FilterRec :=
  readRecord [(2, inRange 0 3 (byteAt b 2).toNat)]
    ⟨byteAt b 0, byteAt b 1, (byteAt b 2).getLsbD 0, (byteAt b 2).getLsbD 1⟩

/-- The function of a LINE record's first byte (1.4). -/
def functionOfByte (b : Byte) : LineFunction :=
  if b = 1 then .sectionOut else if b = 2 then .alarmOut else if b = 3 then .restoreIn else if b = 4 then .inhibitIn else .off

def LineRec.parse (b : List Byte) : Except Nat LineRec :=
  readRecord
    [(0, inRange 0 4 (byteAt b 0).toNat), (1, inRange 0 23 (byteAt b 1).toNat), (2, inRange 0 1 (byteAt b 2).toNat)]
    ⟨functionOfByte (byteAt b 0), Fin.ofNat 24 (byteAt b 1).toNat, if (byteAt b 2).getLsbD 0 then .inverted else .normal⟩

/-! ## A record as READ returns it (1.4, R169) -/

def LossAction.bit (a : LossAction) : Bool := a == .disturb

def PartRec.bytes (r : PartRec) : List Byte :=
  [r.interlocking, r.maintenance, r.recorder, r.passFirst, r.passLast, r.silenceLimit, r.relayPeriod, r.roundPeriod,
   r.alarmMask.extractLsb' 16 8, r.alarmMask.extractLsb' 8 8, r.alarmMask.extractLsb' 0 8, 0]

def HeadRec.bytes (r : HeadRec) : List Byte :=
  [r.address] ++ bytes16 r.spacing ++
  [flagBit 0 r.reversed ||| flagBit 1 r.lossAction.bit ||| flagBit 2 r.guarded, r.reportPeriod, BitVec.ofNat 8 r.grace.val] ++
  bytes16 r.speedLimit ++ [r.relayOut]

def RelayRec.bytes (r : RelayRec) : List Byte :=
  [r.station, r.headAddress, r.period, BitVec.ofNat 8 r.grace.val ||| flagBit 7 r.lossAction.bit]

def SectionRec.bytes (r : SectionRec) : List Byte :=
  [flagBit 0 r.inUse ||| flagBit 1 r.directPermitted] ++ bytes16 r.ceiling ++ [r.waitLimit]

def BoundaryRec.bytes (r : BoundaryRec) : List Byte :=
  [match r.sec with | none => 255 | some k => BitVec.ofNat 8 k.val, BitVec.ofNat 8 r.source.val,
   flagBit 0 (r.sense == .intoOnDown)]

def FilterRec.bytes (r : FilterRec) : List Byte := [r.node, r.mask, flagBit 0 r.enabled ||| flagBit 1 r.includeLife]

def LineRec.bytes (r : LineRec) : List Byte :=
  [r.function.code, BitVec.ofNat 8 r.sec.val, flagBit 0 (r.polarity == .inverted)]

/-! ## The tables by id (1.4) -/

/-- The seven tables. -/
inductive TableId where
  | part
  | head
  | relay
  | sec
  | boundary
  | filter
  | line
  deriving DecidableEq, Repr

/-- Table ids 1 PART to 7 LINE. -/
def TableId.ofByte (b : Byte) : Option TableId :=
  if b = 1 then some .part else if b = 2 then some .head else if b = 3 then some .relay else if b = 4 then some .sec
  else if b = 5 then some .boundary else if b = 6 then some .filter else if b = 7 then some .line else none

/-- The number of entries of a table (1.4). -/
def TableId.entries : TableId → Nat
  | .part => 1
  | .head => 32
  | .relay => 8
  | .sec => 24
  | .boundary => 96
  | .filter => 4
  | .line => 8

/-- The record size of a table in bytes (1.4). -/
def TableId.size : TableId → Nat
  | .part => 12
  | .head => 9
  | .relay => 4
  | .sec => 4
  | .boundary => 3
  | .filter => 3
  | .line => 3

/-- The records of a WRITE in order, or the lowest record index and its lowest field out of range (R168). -/
def parseRecords {α : Type} (size : Nat) (parse : List Byte → Except Nat α) : Nat → Nat → List Byte → Except (Nat × Nat) (List α)
  | _, 0, _ => .ok []
  | i, count + 1, bs =>
    match parse (bs.take size) with
    | .error f => .error (i, f)
    | .ok r =>
      match parseRecords size parse (i + 1) count (bs.drop size) with
      | .error e => .error e
      | .ok rs => .ok (r :: rs)

/-- The records from `first` on replaced, all at once (R167). -/
def replaceFrom {α : Type} {n : Nat} (v : Vector α n) (first : Nat) (rs : List α) : Vector α n :=
  tab fun i => if first ≤ i.val then rs.getD (i.val - first) v[i] else v[i]

/-- The tables with `count` records of a table from `first` on replaced by those the bytes spell, or the
record and field out of range (R167 check 5). -/
def Tables.write (t : Tables) (id : TableId) (first count : Nat) (bs : List Byte) : Except (Nat × Nat) Tables :=
  match id with
  | .part => (parseRecords 12 PartRec.parse 0 count bs).map fun rs => { t with part := rs.getD 0 t.part }
  | .head => (parseRecords 9 HeadRec.parse 0 count bs).map fun rs => { t with heads := replaceFrom t.heads first rs }
  | .relay => (parseRecords 4 RelayRec.parse 0 count bs).map fun rs => { t with relays := replaceFrom t.relays first rs }
  | .sec => (parseRecords 4 SectionRec.parse 0 count bs).map fun rs => { t with sections := replaceFrom t.sections first rs }
  | .boundary => (parseRecords 3 BoundaryRec.parse 0 count bs).map fun rs => { t with boundaries := replaceFrom t.boundaries first rs }
  | .filter => (parseRecords 3 FilterRec.parse 0 count bs).map fun rs => { t with filters := replaceFrom t.filters first rs }
  | .line => (parseRecords 3 LineRec.parse 0 count bs).map fun rs => { t with lines := replaceFrom t.lines first rs }

/-- The bytes of `count` records from `first` on. -/
def recordBytes {α : Type} {n : Nat} (v : Vector α n) (bytes : α → List Byte) (first count : Nat) : List Byte :=
  ((v.toList.drop first).take count).flatMap bytes

/-- The record bytes a READ returns (R169). -/
def Tables.read (t : Tables) (id : TableId) (first count : Nat) : List Byte :=
  match id with
  | .part => t.part.bytes
  | .head => recordBytes t.heads HeadRec.bytes first count
  | .relay => recordBytes t.relays RelayRec.bytes first count
  | .sec => recordBytes t.sections SectionRec.bytes first count
  | .boundary => recordBytes t.boundaries BoundaryRec.bytes first count
  | .filter => recordBytes t.filters FilterRec.bytes first count
  | .line => recordBytes t.lines LineRec.bytes first count

end Sys2Proof.Machine
end

