-- ==== Sys2Proof/Machine/Watch.lean ====
section
/-! DEFINITION. Chapter 9, the watch unit: matching, firing, capture records and WATCH notices. -/

namespace Sys2Proof.Machine

/-- Bytes agree in every bit whose mask bit is 0 (R19, R156). -/
def maskedEq (mask a b : Byte) : Bool := (a ^^^ b) &&& ~~~mask == 0

/-- The entry's port names the port of reception (R156); `onLine` is the line port. -/
def WatchPort.covers : WatchPort → Bool → Bool
  | .either, _ | .line, true | .field, false => true
  | .line, false | .field, true => false

/-- The payload test of an entry: absent, or L above the offset and the byte equal under the mask (R156). -/
def PayloadTest.passes (t : PayloadTest) (payload : List Byte) : Bool :=
  t.offset.val < payload.length && maskedEq t.mask (byteAt payload t.offset.val) t.value

/-- The frame matches the entry (R156). -/
def WatchEntry.hits (w : WatchEntry) (onLine : Bool) (f : Frame) : Bool :=
  w.mode != .off && w.port.covers onLine && maskedEq w.nodeMask f.hdr.srcNode w.node &&
    (w.kind == 0 || w.kind == f.kind) && (match w.test with | none => true | some t => t.passes f.payload)

/-- The WATCH notice of a firing, to the maintenance station as the PART record now names it (1.2, R159). -/
def State.watchNotice (s : State) (e : Fin 4) (kept : Bool) (f : Frame) : Frame :=
  s.ownFrame s.tables.part.maintenance 0 kindWatch
    ([BitVec.ofNat 8 e.val, if kept then 1 else 0] ++ bytes32 s.partTime ++ [f.kind, f.hdr.srcNode])

/-- A capture record joins the buffer while it holds fewer than 8 (R158). -/
def Watch.keep (w : Watch) (c : Capture) : Watch :=
  if w.captures.length < Config.captureSpace then { w with captures := w.captures ++ [c] } else w

/-- A WATCH notice joins the notice list while it holds fewer than 8 (R159). -/
def Watch.announce (w : Watch) (n : Frame) : Watch :=
  if w.notices.length < Config.noticeSpace then { w with notices := w.notices ++ [n] } else w

/-- An entry in ONCE mode changes to OFF when it fires (R157). -/
def WatchEntry.fired (w : WatchEntry) : WatchEntry := if w.mode = .once then { w with mode := .off } else w

/-- Entry `e` fires on a frame: capture record, notice, ONCE to OFF (R157). -/
def State.fire (s : State) (f : Frame) (e : Fin 4) : State :=
  let kept := s.watch.captures.length < Config.captureSpace
  let w := (s.watch.keep ⟨e, s.partTime, f.body⟩).announce (s.watchNotice e kept f)
  s.setWatch { w with entries := upd w.entries e s.watch.entries[e].fired }

/-- A checked frame is offered to the watch unit: each matching entry fires, in ascending order (R156, R157). -/
def State.offer (s : State) (onLine : Bool) (f : Frame) : State :=
  (List.finRange 4).foldl (fun s e => if s.watch.entries[e].hits onLine f then s.fire f e else s) s

/-- A capture record in a CAPTURE answer: entry, part time, frame length, at most 54 frame bytes (1.3). -/
def Capture.bytesOut (c : Capture) : List Byte :=
  BitVec.ofNat 8 c.entry.val :: bytes32 c.time ++ [BitVec.ofNat 8 c.bytes.length] ++ c.bytes.take Config.captureBytes

/-- How many of the oldest records a CAPTURE returns and removes: the second only when both fit whole (R160). -/
def captureCount (most : Nat) : List Capture → Nat
  | [] => 0
  | [_] => 1
  | a :: b :: _ =>
    if 2 ≤ most ∧ 1 + (6 + a.bytes.length) + (6 + b.bytes.length) ≤ Config.captureData then 2 else 1

end Sys2Proof.Machine
end

