-- ==== Sys2Proof/Machine/Management.lean ====
section
/-! DEFINITION. Chapter 10, the management unit: the general steps of every request, the permissions, and the
action of each of the thirteen request codes. -/

namespace Sys2Proof.Machine

/-- The thirteen request codes of 1.3. -/
inductive RequestCode where
  | mode
  | write
  | read
  | status
  | readmit
  | restart
  | noticeHold
  | noticeRelease
  | watchSet
  | capture
  | restoreSweep
  | restoreDirect
  | restoreCancel
  deriving DecidableEq, Repr

def RequestCode.byte : RequestCode → Byte
  | .mode => 0x01
  | .write => 0x02
  | .read => 0x03
  | .status => 0x04
  | .readmit => 0x05
  | .restart => 0x06
  | .noticeHold => 0x07
  | .noticeRelease => 0x08
  | .watchSet => 0x09
  | .capture => 0x0A
  | .restoreSweep => 0x10
  | .restoreDirect => 0x11
  | .restoreCancel => 0x12

/-- All codes, in the order of 1.3. -/
def RequestCode.all : List RequestCode :=
  [.mode, .write, .read, .status, .readmit, .restart, .noticeHold, .noticeRelease, .watchSet, .capture,
   .restoreSweep, .restoreDirect, .restoreCancel]

def RequestCode.ofByte (b : Byte) : Option RequestCode := RequestCode.all.find? fun c => c.byte == b

/-- The number of parameter bytes (L less the code and the tag) is that of 1.3; for WRITE at least 3, its exact
length being judged later (R163 step 4). -/
def RequestCode.lengthOk (c : RequestCode) (n : Nat) : Bool :=
  match c with
  | .mode | .readmit | .capture | .restoreSweep | .restoreDirect | .restoreCancel => n == 1
  | .write => 3 ≤ n
  | .read => n == 3
  | .status => n == 2
  | .restart | .noticeHold | .noticeRelease => n == 0
  | .watchSet => n == 10

/-- The sender is the station a PART field names; 0 names none (R164). -/
def isStation (named sender : Byte) : Bool := named != 0 && named == sender

/-- The source station is permitted for the code (R164, R106, R146, R147, R160). -/
def State.permitted (s : State) (c : RequestCode) (sender : Byte) : Bool :=
  match c with
  | .read | .status => true
  | .mode | .write | .readmit | .restart | .watchSet =>
    s.tables.part.maintenance == 0 || isStation s.tables.part.maintenance sender
  | .capture => isStation s.tables.part.maintenance sender
  | .noticeHold | .noticeRelease | .restoreSweep | .restoreDirect | .restoreCancel =>
    isStation s.tables.part.interlocking sender

/-! ## STATUS records (1.3, R41, R104, R138, R170, R177) -/

def State.headStatus (s : State) (k : Fin 32) : List Byte :=
  let h := s.heads[k]
  [h.state.code, codeOr0 FaultCause.code h.fault, presenceFlags h s.relayOut[k], h.expected.getD 0, h.recvA, h.recvB,
   BitVec.ofNat 8 h.missed.val, BitVec.ofNat 8 h.strikes.val, h.healthA.code, h.healthB.code, h.recog.state.code,
   BitVec.ofNat 8 s.relayOut[k].pending.length] ++ bytes16 h.repeats ++ bytes16 h.recog.rockBack

def State.channelStatus (s : State) (c : Fin 8) : List Byte :=
  let r := s.channels[c]
  [r.state.code, codeOr0 FaultCause.code r.fault, flagBit 0 r.expected.isSome, r.expected.getD 0,
   BitVec.ofNat 8 r.missed.val, r.lastOrigin.code]

def State.sectionStatus (s : State) (k : Fin 24) : List Byte :=
  let r := s.sections[k]
  [r.state.code, r.state.shown] ++ countBytes r.count ++ bytes16 r.inTally ++ bytes16 r.outTally ++ bytes16 r.absorbed ++
    [codeOr0 Cause.code r.cause, sourceCode r.causeSource, r.statusFlags s.notice.owed[k],
     codeOr0 RestoreKind.code r.restoreKind] ++ bytes32 r.disturbedTime

def Link.code : Link → Byte
  | .down => 0
  | .up => 1

def State.portsStatus (s : State) : List Byte :=
  [s.mode.code, s.linePort.link.code, if s.pins.ownStation.isSome then 0 else 1] ++
    bytes16 s.tallies.fieldDamaged ++ bytes16 s.tallies.lineDamaged ++ bytes16 s.tallies.misrouted ++
    bytes16 s.tallies.unknown ++ bytes16 s.tallies.forwardDropped ++ bytes16 s.tallies.droppedRequest ++
    [BitVec.ofNat 8 s.linePort.answers.length, BitVec.ofNat 8 s.linePort.forward.length,
     BitVec.ofNat 8 s.fieldPort.orders.length] ++ bytes32 s.partTime

def State.linesStatus (s : State) : List Byte :=
  (List.finRange 8).flatMap fun l => [s.tables.lines[l].function.code, if s.lineLevel l then 1 else 0]

/-- The status record of a subject and index, none for a RANGE (R170). -/
def State.statusRecord (s : State) (subject index : Byte) : Option (List Byte) :=
  if subject = 0 then (if h : index.toNat < 32 then some (s.headStatus ⟨index.toNat, h⟩) else none)
  else if subject = 1 then (if h : index.toNat < 8 then some (s.channelStatus ⟨index.toNat, h⟩) else none)
  else if subject = 2 then (if h : index.toNat < 24 then some (s.sectionStatus ⟨index.toNat, h⟩) else none)
  else if subject = 3 then some s.portsStatus
  else if subject = 4 then some s.linesStatus
  else none

/-! ## The actions: the state after, and the reply -/

/-- A refusal: no state changes, no data. -/
def State.refuse (s : State) (r : Result) : State × Reply := (s, ⟨r, []⟩)

/-- OK with no data. -/
def State.okay (s : State) : State × Reply := (s, ⟨.ok, []⟩)

/-- MODE (R165, R166, R71). -/
def State.doMode (s : State) (p : List Byte) : State × Reply :=
  if byteAt p 0 = 0 then
    match s.mode with
    | .config => s.okay
    | .run => s.enterConfig.okay
  else if byteAt p 0 = 1 then
    match s.mode with
    | .run => s.okay
    | .config =>
      match s.tables.validate s.pins.ownStation with
      | some o => (s, ⟨.validation, [o.check, o.table, BitVec.ofNat 8 o.index]⟩)
      | none => s.enterRun.okay
  else s.refuse .range

/-- What a WRITE's own checks give (R167): the tables and the table written, or the refusal. -/
def State.judgeWrite (s : State) (p : List Byte) : Except Reply (TableId × Tables) :=
  if s.mode = .run then .error ⟨.wrongMode, []⟩ else
  match TableId.ofByte (byteAt p 0) with
  | none => .error ⟨.range, []⟩
  | some id =>
    let count := (byteAt p 2).toNat + 1
    if (p.drop 3).length ≠ count * id.size then .error ⟨.badLength, []⟩
    else if id.entries < (byteAt p 1).toNat + count then .error ⟨.range, []⟩
    else
      match s.tables.write id (byteAt p 1).toNat count (p.drop 3) with
      | .error (i, f) => .error ⟨.badValue, [BitVec.ofNat 8 i, BitVec.ofNat 8 f]⟩
      | .ok t => .ok (id, t)

/-- The lines whose LINE record a WRITE replaces drop their activation (R179). -/
def State.dropWritten (s : State) (first count : Nat) : State :=
  s.setLines (tab fun l => if first ≤ l.val ∧ l.val < first + count then s.dropped l else s.lines[l])

/-- The local lines after a WRITE: a written LINE record drops its activation (R179); the output latches are
judged at a written function or alarm mask (R177, R178). -/
def State.linesAfterWrite (s : State) (id : TableId) (p : List Byte) : State :=
  match id with
  | .line => (s.dropWritten (byteAt p 1).toNat ((byteAt p 2).toNat + 1)).judgeLatches
  | .part => s.judgeLatches
  | .head | .relay | .sec | .boundary | .filter => s

/-- WRITE (R167, R168). -/
def State.doWrite (s : State) (p : List Byte) : State × Reply :=
  match s.judgeWrite p with
  | .error r => (s, r)
  | .ok (id, t) => ((s.setTables t).linesAfterWrite id p).okay

/-- READ (R169). -/
def State.doRead (s : State) (p : List Byte) : State × Reply :=
  match TableId.ofByte (byteAt p 0) with
  | none => s.refuse .range
  | some id =>
    let count := (byteAt p 2).toNat + 1
    if id.entries < (byteAt p 1).toNat + count then s.refuse .range
    else if Config.readSpace < count * id.size then s.refuse .badLength
    else (s, ⟨.ok, p.take 3 ++ s.tables.read id (byteAt p 1).toNat count⟩)

/-- STATUS (R170). -/
def State.doStatus (s : State) (p : List Byte) : State × Reply :=
  match s.statusRecord (byteAt p 0) (byteAt p 1) with
  | none => s.refuse .range
  | some r => (s, ⟨.ok, [byteAt p 0, byteAt p 1] ++ r⟩)

/-- READMIT (R171). The rule puts no order between RANGE and WRONG_MODE for a source above 39 in CONFIG: RANGE
first is the model's choice (DESIGN CHOICE, assumption 17). -/
def State.doReadmit (s : State) (p : List Byte) : State × Reply :=
  if h : (byteAt p 0).toNat < 40 then
    if s.mode = .config then s.refuse .wrongMode
    else if s.sourceState ⟨(byteAt p 0).toNat, h⟩ = .faulty ∨ s.sourceState ⟨(byteAt p 0).toNat, h⟩ = .lost then
      (s.readmitBroken ⟨(byteAt p 0).toNat, h⟩).okay
    else s.refuse .wrongState
  else s.refuse .range

/-- RESTART: answered OK, the pending-restart flag set (R173). -/
def State.doRestart (s : State) : State × Reply := (s.setPendingRestart true).okay

/-- NOTICE_HOLD (R146). -/
def State.doHold (s : State) : State × Reply := (s.setNotice { s.notice with hold := .held }).okay

/-- NOTICE_RELEASE (R147). -/
def State.doRelease (s : State) : State × Reply := (s.setNotice { s.notice with hold := .free }).okay

/-- The payload test of a WATCH_SET: absent, or present with its offset, value and mask (R175). -/
def testOf (p : List Byte) : Option PayloadTest :=
  if byteAt p 6 = 0 then none else some ⟨Fin.ofNat 64 (byteAt p 7).toNat, byteAt p 8, byteAt p 9⟩

/-- The watch entry a WATCH_SET spells (1.3, R175). -/
def watchEntryOf (p : List Byte) : WatchEntry where
  mode := if byteAt p 1 = 0 then .off else if byteAt p 1 = 1 then .once else .every
  port := if byteAt p 2 = 0 then .field else if byteAt p 2 = 1 then .line else .either
  node := byteAt p 3
  nodeMask := byteAt p 4
  kind := byteAt p 5
  test := testOf p

/-- The parameters of a WATCH_SET are in range (R175). -/
def watchInRange (p : List Byte) : Bool :=
  (byteAt p 0).toNat ≤ 3 && (byteAt p 1).toNat ≤ 2 && (byteAt p 2).toNat ≤ 2 && (byteAt p 6).toNat ≤ 1 &&
    (byteAt p 6 == 0 || (byteAt p 7).toNat ≤ 63)

/-- WATCH_SET (R175). -/
def State.doWatchSet (s : State) (p : List Byte) : State × Reply :=
  if watchInRange p then
    (s.setWatch { s.watch with entries := upd s.watch.entries (Fin.ofNat 4 (byteAt p 0).toNat) (watchEntryOf p) }).okay
  else s.refuse .range

/-- CAPTURE (R160). -/
def State.doCapture (s : State) (p : List Byte) : State × Reply :=
  if byteAt p 0 = 1 ∨ byteAt p 0 = 2 then
    let n := captureCount (byteAt p 0).toNat s.watch.captures
    (s.setWatch { s.watch with captures := s.watch.captures.drop n },
      ⟨.ok, BitVec.ofNat 8 n :: (s.watch.captures.take n).flatMap Capture.bytesOut⟩)
  else s.refuse .range

/-- RESTORE_SWEEP and RESTORE_DIRECT (R107, R110). -/
def State.doRestore (s : State) (kind : RestoreKind) (p : List Byte) : State × Reply :=
  match s.judgeRestoreOrder kind (byteAt p 0).toNat with
  | .refused r => s.refuse r
  | .accepted k => (s.acceptRestore kind k).okay

/-- RESTORE_CANCEL (R116). -/
def State.doCancel (s : State) (p : List Byte) : State × Reply :=
  match s.judgeCancel (byteAt p 0).toNat with
  | .refused r => s.refuse r
  | .accepted k => (s.disturb k .cancelled none).okay

/-- The request's own checks and action (R163 step 6). -/
def State.act (s : State) (c : RequestCode) (p : List Byte) : State × Reply :=
  match c with
  | .mode => s.doMode p
  | .write => s.doWrite p
  | .read => s.doRead p
  | .status => s.doStatus p
  | .readmit => s.doReadmit p
  | .restart => s.doRestart
  | .noticeHold => s.doHold
  | .noticeRelease => s.doRelease
  | .watchSet => s.doWatchSet p
  | .capture => s.doCapture p
  | .restoreSweep => s.doRestore .sweep p
  | .restoreDirect => s.doRestore .direct p
  | .restoreCancel => s.doCancel p

/-! ## From request to answer (R163) -/

/-- The answer to a request is built and joins the answer queue; the answer to a RESTART carries its mark. -/
def State.reply (s : State) (f : Frame) (r : Reply) (restart : Bool) : State :=
  s.pushAnswer ⟨s.answerFrame f.hdr (byteAt f.payload 0) (byteAt f.payload 1) r, restart⟩

/-- Steps 3 to 6: code, length, permission, and the action with its answer (R163). -/
def State.execute (s : State) (f : Frame) : State :=
  match RequestCode.ofByte (byteAt f.payload 0) with
  | none => s.reply f ⟨.unknown, []⟩ false
  | some c =>
    if !c.lengthOk (f.payload.drop 2).length then s.reply f ⟨.badLength, []⟩ false
    else if !s.permitted c f.hdr.srcStation then s.reply f ⟨.notPermitted, []⟩ false
    else
      let done := s.act c (f.payload.drop 2)
      done.1.reply f done.2 (c == .restart)

/-- A REQUEST handed to the management unit: with the answer queue full, or a restart pending, it is not
executed and counted; else it is executed and answered (R163). -/
def State.request (s : State) (f : Frame) : State :=
  if s.answersFull then s.countDroppedRequest
  else if s.pendingRestart then s.countDroppedRequest
  else s.execute f

end Sys2Proof.Machine
end

