-- ==== Sys2Proof/Machine/Operands.lean ====
section
/-! DEFINITION. The operand forms: the frame that the operands of a frame row spell (1.2, 1.3). -/

namespace Sys2Proof.Machine

/-- The LIFE frame of its fields. -/
def lifeOperand (hdr : Header) (seq : Byte) (stamp : Half) (tallyA tallyB stateByte : Byte) : Frame :=
  ⟨hdr, kindLife, [seq] ++ bytes16 stamp ++ [tallyA, tallyB, stateByte]⟩

/-- The WHEEL frame of its edge records. -/
def wheelOperand (hdr : Header) (seq flags : Byte) (edges : List EdgeOperand) : Frame :=
  ⟨hdr, kindWheel, [seq, flags, BitVec.ofNat 8 edges.length] ++ edges.flatMap fun e => e.edge :: bytes16 e.stamp⟩

/-- The KEEP frame. -/
def keepOperand (hdr : Header) : Frame := ⟨hdr, kindKeep, []⟩

/-- The RELAY frame of its passages. -/
def relayOperand (hdr : Header) (seq origin status : Byte) (passages : List PassageOperand) : Frame :=
  ⟨hdr, kindRelay, [seq, origin, status, BitVec.ofNat 8 passages.length] ++
    passages.flatMap fun p => p.direction :: bytes16 p.speed⟩

/-- The ORDER frame of a code and its parameters. -/
def orderOperand (hdr : Header) (code : Byte) (params : List Byte) : Frame := ⟨hdr, kindOrder, code :: params⟩

/-- The REQUEST frame of a code, a tag and the parameters. -/
def requestOperand (hdr : Header) (code : RequestCode) (tag : Byte) (params : List Byte) : Frame :=
  ⟨hdr, kindRequest, [code.byte, tag] ++ params⟩

end Sys2Proof.Machine
end

