-- ==== Sys2Proof/Machine/Routing.lean ====
section
/-! DEFINITION. Chapter 1's routing and chapter 9's intercept: what each port does with a received frame. -/

namespace Sys2Proof.Machine

/-! ## Head orders (R17) and the intercept (R151 to R153) -/

/-- The sender is the interlocking or the maintenance station; while both are 0, any station (R17 step 1). -/
def State.orderPermitted (s : State) (sender : Byte) : Bool :=
  (s.tables.part.interlocking == 0 && s.tables.part.maintenance == 0) ||
    isStation s.tables.part.interlocking sender || isStation s.tables.part.maintenance sender

/-- The node lies in the pass window; a window of 0 and 0 contains no node (R17 step 2). -/
def PartRec.inWindow (r : PartRec) (node : Byte) : Bool :=
  !(r.passFirst == 0 && r.passLast == 0) && r.passFirst.toNat ≤ node.toNat && node.toNat ≤ r.passLast.toNat

/-- The node has a route: claimed, in the pass window, or the broadcast (R17 step 2). -/
def State.hasRoute (s : State) (node : Byte) : Bool :=
  node == 255 || (s.tables.slotOfNode node).isSome || s.tables.part.inWindow node

/-- The head slots an order addresses: one claimed slot, none, or every used slot for node 255 (R151). -/
def State.addressed (s : State) (node : Byte) : List (Fin 32) :=
  if node = 255 then (List.finRange 32).filter fun k => s.tables.heads[k].used
  else (s.tables.slotOfNode node).toList

/-- The head blocks a TEST_START: GUARD, and bounding a section that counts or waits on a restore (R152). -/
def State.blocks (s : State) (k : Fin 32) : Bool :=
  s.tables.heads[k].guarded && (s.tables.entriesOfSource (headSource k)).any fun e =>
    s.sections[e.1].state.counting || s.sections[e.1].state == .restoreWait

/-- The lowest-numbered addressed slot that blocks the order, in RUN; in CONFIG the intercept is passed at
once, and so does an order of any other code (R17 step 4, R151, R152). -/
def State.intercept (s : State) (code node : Byte) : Option (Fin 32) :=
  if s.mode = .run ∧ code = codeTestStart then (s.addressed node).find? s.blocks else none

/-- The first failing step of R17, with the data of its answer. -/
def State.judgeOrder (s : State) (f : Frame) : Option Reply :=
  let node := f.hdr.dstNode
  if !s.orderPermitted f.hdr.srcStation then some ⟨.notPermitted, [node]⟩
  else if !s.hasRoute node then some ⟨.noRoute, [node]⟩
  else if Config.orderSpace ≤ s.fieldPort.orders.length then some ⟨.fieldBusy, [node]⟩
  else
    match s.intercept (byteAt f.payload 0) node with
    | some k => some ⟨.testBlocked, [node, BitVec.ofNat 8 k.val]⟩
    | none => none

/-- A refused order is answered with request code 0x00 and the order code in place of the tag, or, with the
answer queue full, counted (R12, 1.3). -/
def State.refuseOrder (s : State) (f : Frame) (r : Reply) : State :=
  if s.answersFull then s.countDroppedRequest
  else s.pushAnswer ⟨s.answerFrame f.hdr 0 (byteAt f.payload 0) r, false⟩

/-- An accepted order joins the field order queue with 0 in its destination station byte (R7). -/
def State.queueOrder (s : State) (f : Frame) : State :=
  s.setFieldPort { s.fieldPort with orders := s.fieldPort.orders ++ [{ f with hdr := { f.hdr with dstStation := 0 } }] }

/-- The heads a queued TEST_START addresses enter IN_TEST one at a time, in RUN (R153). -/
def State.testHeads (s : State) (f : Frame) : State :=
  if s.mode = .run ∧ byteAt f.payload 0 = codeTestStart then (s.addressed f.hdr.dstNode).foldl State.testHead s else s

/-- A head order (R17). -/
def State.headOrder (s : State) (f : Frame) : State :=
  match s.judgeOrder f with
  | some r => s.refuseOrder f r
  | none => (s.queueOrder f).testHeads f

/-! ## Routing from the line (R15, R16, R17) -/

/-- The frame is for the own station of an addressed part (R15, R10). -/
def State.forUs (s : State) (f : Frame) : Bool := s.pins.ownStation == some f.hdr.dstStation

/-- Routing of a checked line frame (R15 to R17). -/
def State.routeLine (s : State) (f : Frame) : State :=
  if !s.forUs f then s.countMisrouted
  else if f.hdr.dstNode = 0 then
    if f.kind = kindRequest then s.request f
    else if f.kind = kindRelay then s.relayIn f
    else if f.kind = kindKeep then s
    else s.countUnknown
  else if f.kind = kindOrder then s.headOrder f
  else s.countUnknown

/-- A checked line frame moves the link to UP and restarts the silence timer (R8). -/
def State.lineAlive (s : State) : State :=
  s.setLinePort { s.linePort with link := .up, silence := s.timerAfter (ticks10ms s.tables.part.silenceLimit) }

/-- A frame judged at the line port: damaged frames are counted (R3); a checked frame is offered to the watch
unit, acts on the link, and is routed. -/
def State.lineJudged (s : State) : Judged → State
  | .damaged _ => s.countLineDamaged
  | .checked f => ((s.offer true f).lineAlive).routeLine f

/-- The line port's receiver is on: no reset, and the port is not transmitting (R1, R181). -/
def State.lineHears (s : State) : Bool := !s.pins.resetLow && s.linePort.tx.isNone

/-- A frame, judged, reaches the line port; with the receiver off it is not received (R1). -/
def State.lineArrival (s : State) (j : Judged) : State := if s.lineHears then s.lineJudged j else s

/-! ## Routing from the field (R18, R19) -/

/-- A filter entry matches the frame (R19). -/
def FilterRec.hits (r : FilterRec) (f : Frame) : Bool :=
  r.enabled && maskedEq r.mask f.hdr.srcNode r.node && (f.kind != kindLife || r.includeLife)

/-- The frame is forwarded: a recorder station, and an enabled matching entry (R19). -/
def State.forwards (s : State) (f : Frame) : Bool :=
  s.tables.part.recorder != 0 && (List.finRange 4).any fun e => s.tables.filters[e].hits f

/-- The forwarded copy: recorder station in byte 0, own station in byte 2 (R19). -/
def State.stamped (s : State) (f : Frame) : Frame :=
  { f with hdr := { f.hdr with dstStation := s.tables.part.recorder, srcStation := s.ownByte } }

/-- A copy joins the forward queue; with 16 waiting the oldest is dropped and counted (R13). -/
def State.pushForward (s : State) (f : Frame) : State :=
  if s.linePort.forward.length < Config.forwardSpace then
    s.setLinePort { s.linePort with forward := s.linePort.forward ++ [f] }
  else (s.setLinePort { s.linePort with forward := s.linePort.forward.drop 1 ++ [f] }).countForwardDropped

/-- Forwarding (R19). -/
def State.forwarding (s : State) (f : Frame) : State := if s.forwards f then s.pushForward (s.stamped f) else s

/-- The fields of a LIFE payload (1.2). -/
def lifeFields (p : List Byte) : LifeFields := ⟨byteAt p 0, halfAt p 1, byteAt p 3, byteAt p 4, byteAt p 5⟩

/-- Evaluation of a checked field frame in RUN: LIFE and WHEEL from a claimed head go to the head supervisor,
another kind from one is counted unknown (R18). -/
def State.evaluate (s : State) (f : Frame) : State :=
  match s.mode, s.tables.slotOfNode f.hdr.srcNode with
  | .config, _ => s
  | .run, none => s
  | .run, some k =>
    if f.kind = kindLife then s.lifeFrame k (lifeFields f.payload)
    else if f.kind = kindWheel then s.wheelFrame k (byteAt f.payload 0) (byteAt f.payload 1) (wheelEdges f.payload)
    else s.countUnknown

/-- A frame judged at the field port: damaged frames are counted (R3); a checked frame is offered to the watch
unit, judged for forwarding, and evaluated. -/
def State.fieldJudged (s : State) : Judged → State
  | .damaged _ => s.countFieldDamaged
  | .checked f => ((s.offer false f).forwarding f).evaluate f

/-- The field port's receiver is on (R1, R181). -/
def State.fieldHears (s : State) : Bool := !s.pins.resetLow && s.fieldPort.tx.isNone

/-- A frame, judged, reaches the field port; with the receiver off it is not received (R1). -/
def State.fieldArrival (s : State) (j : Judged) : State := if s.fieldHears then s.fieldJudged j else s

end Sys2Proof.Machine
end

