-- ==== Sys2Proof/Machine/FieldFrames.lean ====
section
/-! DEFINITION. The rows of the field port's receiver: FIELD_FRAME_RECEIVED, LIFE, WHEEL. -/

namespace Sys2Proof.Machine

/-- FIELD_FRAME_RECEIVED (R18, R3): the run is judged at the field port. -/
def execFieldFrameReceived (run : List RxChar) (s : State) : Host.Outcome State Fault Refusal :=
  .next (s.fieldArrival (judgeRun run))

/-- LIFE (R28, R23): the LIFE frame at the field port. -/
def execLife (hdr : Header) (seq : Byte) (stamp : Half) (tallyA tallyB stateByte : Byte) (s : State) :
    Host.Outcome State Fault Refusal :=
  .next (s.fieldArrival (judgeFrame (lifeOperand hdr seq stamp tallyA tallyB stateByte)))

/-- WHEEL (R32, R23): the WHEEL frame at the field port. -/
def execWheel (hdr : Header) (seq flags : Byte) (edges : List EdgeOperand) (s : State) : Host.Outcome State Fault Refusal :=
  .next (s.fieldArrival (judgeFrame (wheelOperand hdr seq flags edges)))

end Sys2Proof.Machine
end

