-- ==== Sys2Proof/Machine/LineFrames.lean ====
section
/-! DEFINITION. The rows of the line port's receiver that are no requests: LINE_FRAME_RECEIVED, KEEP, RELAY,
ORDER, TEST_START, LINE_DAMAGED_FRAME. -/

namespace Sys2Proof.Machine

/-- LINE_FRAME_RECEIVED (R15, R16, R17): the run is judged at the line port. -/
def execLineFrameReceived (run : List RxChar) (s : State) : Host.Outcome State Fault Refusal :=
  .next (s.lineArrival (judgeRun run))

/-- KEEP (R8): the KEEP frame at the line port. -/
def execKeep (hdr : Header) (s : State) : Host.Outcome State Fault Refusal :=
  .next (s.lineArrival (judgeFrame (keepOperand hdr)))

/-- RELAY (R131): the RELAY frame at the line port. -/
def execRelay (hdr : Header) (seq origin status : Byte) (passages : List PassageOperand) (s : State) :
    Host.Outcome State Fault Refusal :=
  .next (s.lineArrival (judgeFrame (relayOperand hdr seq origin status passages)))

/-- ORDER (R17): a head order at the line port. -/
def execOrder (hdr : Header) (code : Byte) (params : List Byte) (s : State) : Host.Outcome State Fault Refusal :=
  .next (s.lineArrival (judgeFrame (orderOperand hdr code params)))

/-- TEST_START (R152, R153): a head order with code TEST_START at the line port. -/
def execTestStart (hdr : Header) (params : List Byte) (s : State) : Host.Outcome State Fault Refusal :=
  .next (s.lineArrival (judgeFrame (orderOperand hdr codeTestStart params)))

/-- LINE_DAMAGED_FRAME (R3): the run is judged at the line port, and a damaged one counted there. -/
def execLineDamagedFrame (run : List RxChar) (s : State) : Host.Outcome State Fault Refusal :=
  .next (s.lineArrival (judgeRun run))

end Sys2Proof.Machine
end

