-- ==== Sys2Proof/Machine/Pins.lean ====
section
/-! DEFINITION. The pin rows: HARDWARE_RESET, RESET_PIN_LOW, LOCAL_LINE_LEVEL_CHANGE. -/

namespace Sys2Proof.Machine

/-- HARDWARE_RESET (R181, R176): the reset is released with these levels at STA7 to STA0 and RATE. -/
def execHardwareReset (straps : Byte) (ratePin : PinLevel) (s : State) : Host.Outcome State Fault Refusal :=
  .next (s.hardwareReset straps ratePin)

/-- RESET_PIN_LOW (R181). -/
def execResetPinLow (s : State) : Host.Outcome State Fault Refusal := .next s.resetLow

/-- LOCAL_LINE_LEVEL_CHANGE (R177, R179). -/
def execLocalLineLevelChange (line : Fin 8) (level : PinLevel) (s : State) : Host.Outcome State Fault Refusal :=
  .next (s.levelChange line level)

end Sys2Proof.Machine
end

