-- ==== Sys2Proof/Machine/Requests.lean ====
section
/-! DEFINITION. The thirteen request rows: each is a REQUEST frame of its code at the line port, routed to the
management unit (R16, R163), whose action for the code is `State.act`. -/

namespace Sys2Proof.Machine

/-- MODE (R165, R166). -/
def execMode (hdr : Header) (tag : Byte) (params : List Byte) (s : State) : Host.Outcome State Fault Refusal :=
  .next (s.lineArrival (judgeFrame (requestOperand hdr .mode tag params)))

/-- WRITE (R167, R168). -/
def execWrite (hdr : Header) (tag : Byte) (params : List Byte) (s : State) : Host.Outcome State Fault Refusal :=
  .next (s.lineArrival (judgeFrame (requestOperand hdr .write tag params)))

/-- READ (R169). -/
def execRead (hdr : Header) (tag : Byte) (params : List Byte) (s : State) : Host.Outcome State Fault Refusal :=
  .next (s.lineArrival (judgeFrame (requestOperand hdr .read tag params)))

/-- STATUS (R170). -/
def execStatus (hdr : Header) (tag : Byte) (params : List Byte) (s : State) : Host.Outcome State Fault Refusal :=
  .next (s.lineArrival (judgeFrame (requestOperand hdr .status tag params)))

/-- READMIT (R171). -/
def execReadmit (hdr : Header) (tag : Byte) (params : List Byte) (s : State) : Host.Outcome State Fault Refusal :=
  .next (s.lineArrival (judgeFrame (requestOperand hdr .readmit tag params)))

/-- RESTART (R173). -/
def execRestart (hdr : Header) (tag : Byte) (params : List Byte) (s : State) : Host.Outcome State Fault Refusal :=
  .next (s.lineArrival (judgeFrame (requestOperand hdr .restart tag params)))

/-- NOTICE_HOLD (R146). -/
def execNoticeHold (hdr : Header) (tag : Byte) (params : List Byte) (s : State) : Host.Outcome State Fault Refusal :=
  .next (s.lineArrival (judgeFrame (requestOperand hdr .noticeHold tag params)))

/-- NOTICE_RELEASE (R147). -/
def execNoticeRelease (hdr : Header) (tag : Byte) (params : List Byte) (s : State) : Host.Outcome State Fault Refusal :=
  .next (s.lineArrival (judgeFrame (requestOperand hdr .noticeRelease tag params)))

/-- WATCH_SET (R175). -/
def execWatchSet (hdr : Header) (tag : Byte) (params : List Byte) (s : State) : Host.Outcome State Fault Refusal :=
  .next (s.lineArrival (judgeFrame (requestOperand hdr .watchSet tag params)))

/-- CAPTURE (R160). -/
def execCapture (hdr : Header) (tag : Byte) (params : List Byte) (s : State) : Host.Outcome State Fault Refusal :=
  .next (s.lineArrival (judgeFrame (requestOperand hdr .capture tag params)))

/-- RESTORE_SWEEP (R107, R110). -/
def execRestoreSweep (hdr : Header) (tag : Byte) (params : List Byte) (s : State) : Host.Outcome State Fault Refusal :=
  .next (s.lineArrival (judgeFrame (requestOperand hdr .restoreSweep tag params)))

/-- RESTORE_DIRECT (R109, R110). -/
def execRestoreDirect (hdr : Header) (tag : Byte) (params : List Byte) (s : State) : Host.Outcome State Fault Refusal :=
  .next (s.lineArrival (judgeFrame (requestOperand hdr .restoreDirect tag params)))

/-- RESTORE_CANCEL (R116). -/
def execRestoreCancel (hdr : Header) (tag : Byte) (params : List Byte) (s : State) : Host.Outcome State Fault Refusal :=
  .next (s.lineArrival (judgeFrame (requestOperand hdr .restoreCancel tag params)))

end Sys2Proof.Machine
end

