-- ==== Sys2Proof/Machine/Timers.lean ====
section
/-! DEFINITION. The timer rows, and the tick of the timebase. -/

namespace Sys2Proof.Machine

/-- An event inside the part happens while it is not in reset (DEDUCED, assumption 5): while the reset pin is
low nothing but the release changes it (R181). -/
def State.whenUp (s : State) (t : State) : State := if s.pins.resetLow then s else t

/-- One tick of 20 µs of part time (chapter 0, "Time"). -/
def State.tick (s : State) : State := s.whenUp (s.setPartTime (s.partTime + 1))

/-- SUPERVISION_TIMER_EXPIRY (R33, R34). -/
def execSupervisionTimerExpiry (slot : Fin 32) (s : State) : Host.Outcome State Fault Refusal :=
  .next (s.whenUp (s.headExpiry slot))

/-- CHANNEL_SUPERVISION_EXPIRY (R136). -/
def execChannelSupervisionExpiry (channel : Fin 8) (s : State) : Host.Outcome State Fault Refusal :=
  .next (s.whenUp (s.channelExpiry channel))

/-- SILENCE_TIMER_EXPIRY (R8, R9). -/
def execSilenceTimerExpiry (s : State) : Host.Outcome State Fault Refusal := .next (s.whenUp s.silenceExpiry)

/-- RELAY_TIMER_EXPIRY (R125). -/
def execRelayTimerExpiry (slot : Fin 32) (s : State) : Host.Outcome State Fault Refusal :=
  .next (s.whenUp (s.relayExpiry slot))

/-- ROUND_TIMER_EXPIRY (R144). -/
def execRoundTimerExpiry (s : State) : Host.Outcome State Fault Refusal := .next (s.whenUp s.roundExpiry)

/-- RESTORE_TIMER_EXPIRY (R113). -/
def execRestoreTimerExpiry (sec : Fin 24) (s : State) : Host.Outcome State Fault Refusal :=
  .next (s.whenUp (s.restoreExpiry sec))

/-- RESTORE_IN_TIMER_EXPIRY (R179, R117). -/
def execRestoreInTimerExpiry (line : Fin 8) (s : State) : Host.Outcome State Fault Refusal :=
  .next (s.whenUp (s.activationExpiry line))

end Sys2Proof.Machine
end

