-- ==== Sys2Proof/Machine/Arbiter.lean ====
section
/-! DEFINITION. The transmitters: the line transmit arbiter (R11, R6) and the field port's transmitter (R7). -/

namespace Sys2Proof.Machine

/-! ## The classes of R11: the frame taken, and the state with it gone from its class -/

/-- Class 1: the oldest answer. -/
def State.takeAnswer (s : State) : Option (Outgoing × State) :=
  match s.linePort.answers with
  | [] => none
  | a :: rest => some (a, s.setLinePort { s.linePort with answers := rest })

/-- Class 2: the relay frame of the ready slot that follows the last slot served. -/
def State.takeRelay (s : State) : Option (Outgoing × State) :=
  match nextInTurn s.linePort.lastSlot fun k => s.relayOut[k].ready with
  | none => none
  | some k => some (⟨s.relayFrame k, false⟩,
      (s.setRelayOut k s.relayOut[k].afterTaken).setLinePort { s.linePort with lastSlot := k })

/-- Class 3: the VERDICT of the owed section that follows the last section sent; none while held. -/
def State.takeVerdict (s : State) : Option (Outgoing × State) :=
  match s.notice.hold with
  | .held => none
  | .free =>
    match nextInTurn s.linePort.lastSection fun k => s.notice.owed[k] with
    | none => none
    | some k => some (⟨s.verdictFrame k, false⟩, (s.setOwed k false).setLinePort { s.linePort with lastSection := k })

/-- Class 4: the ROUND made ready. -/
def State.takeRound (s : State) : Option (Outgoing × State) :=
  if s.notice.roundReady then some (⟨s.roundFrame, false⟩, s.setNotice { s.notice with roundReady := false }) else none

/-- A frame of a class addressed to a configured station that is now 0 has no destination (R6). -/
def readdressed (station : Byte) (f : Frame) : Frame :=
  if station = 0 then { f with hdr := { f.hdr with dstStation := 0 } } else f

/-- Class 5: the oldest WATCH notice. -/
def State.takeNotice (s : State) : Option (Outgoing × State) :=
  match s.watch.notices with
  | [] => none
  | n :: rest => some (⟨readdressed s.tables.part.maintenance n, false⟩, s.setWatch { s.watch with notices := rest })

/-- Class 6: the oldest forwarded field frame. -/
def State.takeForward (s : State) : Option (Outgoing × State) :=
  match s.linePort.forward with
  | [] => none
  | f :: rest => some (⟨readdressed s.tables.part.recorder f, false⟩, s.setLinePort { s.linePort with forward := rest })

/-- The first ready frame in class order (R11). -/
def State.takeReady (s : State) : Option (Outgoing × State) :=
  s.takeAnswer.or <| s.takeRelay.or <| s.takeVerdict.or <| s.takeRound.or <| s.takeNotice.or s.takeForward

/-- The arbiter may take a frame: transmitter free, link UP, part addressed (R11, R10). -/
def State.mayTake (s : State) : Bool :=
  s.linePort.tx.isNone && s.linePort.link == .up && s.pins.ownStation.isSome

/-- The most frames the classes can hold ready: a bound on the frames one take can discard. -/
def State.readyBound (s : State) : Nat :=
  s.linePort.answers.length + 32 + 24 + 1 + s.watch.notices.length + s.linePort.forward.length

/-- The arbiter takes the first ready frame and starts its transmission; a frame whose destination station is 0
is discarded, counts as sent, and the next is taken at once (R11, R6). -/
def State.arbitrate : Nat → State → State
  | 0, s => s
  | fuel + 1, s =>
    if s.mayTake then
      match s.takeReady with
      | none => s
      | some (o, t) =>
        if o.frame.hdr.dstStation = 0 then State.arbitrate fuel (t.afterSent o)
        else t.setLinePort { t.linePort with tx := some o }
    else s

/-- The arbiter's turn. -/
def State.arbiterTurn (s : State) : State := s.arbitrate (s.readyBound + 1)

/-- The transmission of a line frame ends (R11, R173). -/
def State.lineSent (s : State) : State :=
  match s.linePort.tx with
  | none => s
  | some o => (s.setLinePort { s.linePort with tx := none }).afterSent o

/-- The field port starts its oldest order, when the transmitter is free (R7). -/
def State.startOrder (s : State) : State :=
  match s.fieldPort.tx, s.fieldPort.orders with
  | none, f :: rest => s.setFieldPort ⟨rest, some f⟩
  | none, [] => s
  | some _, _ => s

/-- The transmission of a field order ends (R7). -/
def State.orderSent (s : State) : State := s.setFieldPort { s.fieldPort with tx := none }

end Sys2Proof.Machine
end

