-- ==== Sys2Proof/Machine/Transmit.lean ====
section
/-! DEFINITION. The transmitter rows: ARBITER_TAKE, LINE_TRANSMIT_DONE, FIELD_ORDER_TRANSMIT, FIELD_TRANSMIT_DONE. -/

namespace Sys2Proof.Machine

/-- ARBITER_TAKE (R11). -/
def execArbiterTake (s : State) : Host.Outcome State Fault Refusal := .next (s.whenUp s.arbiterTurn)

/-- LINE_TRANSMIT_DONE (R11, R173). -/
def execLineTransmitDone (s : State) : Host.Outcome State Fault Refusal := .next (s.whenUp s.lineSent)

/-- FIELD_ORDER_TRANSMIT (R7). -/
def execFieldOrderTransmit (s : State) : Host.Outcome State Fault Refusal := .next (s.whenUp s.startOrder)

/-- FIELD_TRANSMIT_DONE (R7). -/
def execFieldTransmitDone (s : State) : Host.Outcome State Fault Refusal := .next (s.whenUp s.orderSent)

end Sys2Proof.Machine
end

