-- ==== Sys2Proof/Machine/Dispatch.lean ====
section
/-! DEFINITION. One arm per command: each row of the opcode table and its meaning. -/

namespace Sys2Proof.Machine

def exec (i : Instr) (s : State) : Host.Outcome State Fault Refusal :=
  match i with
  | .hardwareReset straps ratePin => Sys2Proof.Machine.execHardwareReset straps ratePin s
  | .fieldFrameReceived run => Sys2Proof.Machine.execFieldFrameReceived run s
  | .life hdr seq stamp tallyA tallyB stateByte => Sys2Proof.Machine.execLife hdr seq stamp tallyA tallyB stateByte s
  | .wheel hdr seq flags edges => Sys2Proof.Machine.execWheel hdr seq flags edges s
  | .lineFrameReceived run => Sys2Proof.Machine.execLineFrameReceived run s
  | .keep hdr => Sys2Proof.Machine.execKeep hdr s
  | .relay hdr seq origin status passages => Sys2Proof.Machine.execRelay hdr seq origin status passages s
  | .order hdr code params => Sys2Proof.Machine.execOrder hdr code params s
  | .testStart hdr params => Sys2Proof.Machine.execTestStart hdr params s
  | .mode hdr tag params => Sys2Proof.Machine.execMode hdr tag params s
  | .write hdr tag params => Sys2Proof.Machine.execWrite hdr tag params s
  | .read hdr tag params => Sys2Proof.Machine.execRead hdr tag params s
  | .status hdr tag params => Sys2Proof.Machine.execStatus hdr tag params s
  | .readmit hdr tag params => Sys2Proof.Machine.execReadmit hdr tag params s
  | .restart hdr tag params => Sys2Proof.Machine.execRestart hdr tag params s
  | .noticeHold hdr tag params => Sys2Proof.Machine.execNoticeHold hdr tag params s
  | .noticeRelease hdr tag params => Sys2Proof.Machine.execNoticeRelease hdr tag params s
  | .watchSet hdr tag params => Sys2Proof.Machine.execWatchSet hdr tag params s
  | .capture hdr tag params => Sys2Proof.Machine.execCapture hdr tag params s
  | .restoreSweep hdr tag params => Sys2Proof.Machine.execRestoreSweep hdr tag params s
  | .restoreDirect hdr tag params => Sys2Proof.Machine.execRestoreDirect hdr tag params s
  | .restoreCancel hdr tag params => Sys2Proof.Machine.execRestoreCancel hdr tag params s
  | .supervisionTimerExpiry slot => Sys2Proof.Machine.execSupervisionTimerExpiry slot s
  | .channelSupervisionExpiry channel => Sys2Proof.Machine.execChannelSupervisionExpiry channel s
  | .silenceTimerExpiry => Sys2Proof.Machine.execSilenceTimerExpiry s
  | .relayTimerExpiry slot => Sys2Proof.Machine.execRelayTimerExpiry slot s
  | .roundTimerExpiry => Sys2Proof.Machine.execRoundTimerExpiry s
  | .restoreTimerExpiry sec => Sys2Proof.Machine.execRestoreTimerExpiry sec s
  | .localLineLevelChange line level => Sys2Proof.Machine.execLocalLineLevelChange line level s
  | .restoreInTimerExpiry line => Sys2Proof.Machine.execRestoreInTimerExpiry line s
  | .arbiterTake => Sys2Proof.Machine.execArbiterTake s
  | .lineTransmitDone => Sys2Proof.Machine.execLineTransmitDone s
  | .fieldOrderTransmit => Sys2Proof.Machine.execFieldOrderTransmit s
  | .fieldTransmitDone => Sys2Proof.Machine.execFieldTransmitDone s
  | .resetPinLow => Sys2Proof.Machine.execResetPinLow s
  | .lineDamagedFrame run => Sys2Proof.Machine.execLineDamagedFrame run s

end Sys2Proof.Machine
end

