-- ==== Sys2Proof/Safety.lean ====
section
/-! DEFINITION. The words in which the statements about the part are made: what a statement leaves alone,
what a command needs to reach the block it is for, and the conditions that hold of every state of a run. -/

namespace Sys2Proof.Machine

/-! ## What an event leaves alone -/

/-- Everything but the section records and what a change of them moves: the restore timers, the owed flags
and the output latches. -/
def State.butSections (s : State) : State :=
  { s with
      sections := Vector.replicate 24 .reset
      restoreTimers := Vector.replicate 24 none
      notice := { s.notice with owed := Vector.replicate 24 false }
      lines := tab fun l => { s.lines[l] with latch := false } }

/-- Everything but the records of the track: heads, relay-out, channels, and the sections with what they move. -/
def State.butTrack (s : State) : State :=
  { s.butSections with
      heads := Vector.replicate 32 .reset
      relayOut := Vector.replicate 32 .reset
      channels := Vector.replicate 8 .reset }

/-! ## Quantities -/

/-- A tally one higher, staying at 65,535 (chapter 0, "Bytes and quantities"). -/
def oneMore (t : Half) : Half := BitVec.ofNat 16 (min 65535 (t.toNat + 1))

/-- The timer runs and part time has reached its expiry (assumption 3). -/
def Timer.reached (t : Timer) (now : Time) : Prop := ∃ e, t = some e ∧ (now - e).toNat < 2 ^ 31

/-- How far an index lies ahead of the last one served, going upward and wrapping to 0: 0 for the next. -/
def ahead {n : Nat} (last j : Fin n) : Nat := (j.val + n - 1 - last.val) % n

/-- The lowest index with a property. -/
def LowestIndex {n : Nat} (p : Fin n → Prop) (i : Nat) : Prop := ∃ k : Fin n, k.val = i ∧ p k ∧ ∀ j, j < k → ¬p j

/-- The index with a property that follows the last one served, in ascending order, wrapping (R11). -/
def FollowsInTurn {n : Nat} (last : Fin n) (p : Fin n → Bool) (k : Fin n) : Prop :=
  p k = true ∧ ∀ j, p j = true → ahead last k ≤ ahead last j

/-! ## Frames on the wire -/

/-- The length rule of R3 for a payload of a kind; a kind not listed has none. -/
def LengthFits (kind : Byte) (p : List Byte) : Prop :=
  let len := p.length
  let byte (i : Nat) := (byteAt p i).toNat
  (kind = 0x11 → len = 6) ∧
  (kind = 0x12 → 3 ≤ len ∧ 1 ≤ byte 2 ∧ byte 2 ≤ 6 ∧ len = 3 + 3 * byte 2) ∧
  (kind = 0x21 → 1 ≤ len) ∧
  (kind = 0x31 → 4 ≤ len ∧ byte 3 ≤ 4 ∧ len = 4 + 3 * byte 3) ∧
  (kind = 0x41 → 2 ≤ len) ∧
  (kind = 0x42 → 3 ≤ len) ∧
  (kind = 0x51 → len = 15) ∧
  (kind = 0x52 → len = 26 ∧ byte 1 = 24) ∧
  (kind = 0x53 → len = 8) ∧
  (kind = 0x61 → len = 0)

/-- A run carries these bytes: those of its characters whose stop bit was good (R1). -/
def Carries (run : List RxChar) (bytes : List Byte) : Prop := (run.filter (·.stopGood)).map (·.data) = bytes

/-! ## Reaching a block from the line -/

/-- The field port's receiver is on: no reset, and the port is not transmitting (R1, R181). -/
def State.fieldOn (s : State) : Prop := s.pins.resetLow = false ∧ s.fieldPort.tx = none

/-- The line port's receiver is on. -/
def State.lineOn (s : State) : Prop := s.pins.resetLow = false ∧ s.linePort.tx = none

/-- A line frame with this header is received by an addressed part whose own station it names (R15). -/
def State.forPart (s : State) (hdr : Header) : Prop := s.lineOn ∧ s.pins.ownStation = some hdr.dstStation

/-- A REQUEST with this header passes steps 1 and 2 of R163. -/
def State.toManagement (s : State) (hdr : Header) : Prop :=
  s.forPart hdr ∧ hdr.dstNode = 0 ∧ s.linePort.answers.length < 8 ∧ s.pendingRestart = false

/-- The sender is the maintenance station, or that station is 0 (R164). -/
def State.fromMaintenance (s : State) (hdr : Header) : Prop :=
  s.tables.part.maintenance = 0 ∨ s.tables.part.maintenance = hdr.srcStation

/-- The sender is the interlocking station, which is not 0 (R106, R146). -/
def State.fromInterlocking (s : State) (hdr : Header) : Prop :=
  s.tables.part.interlocking ≠ 0 ∧ s.tables.part.interlocking = hdr.srcStation

/-- Which stations a request code is permitted from (R164). -/
def State.allowed (s : State) (c : RequestCode) (hdr : Header) : Prop :=
  match c with
  | .read | .status => True
  | .mode | .write | .readmit | .restart | .watchSet => s.fromMaintenance hdr
  | .capture => s.tables.part.maintenance ≠ 0 ∧ s.tables.part.maintenance = hdr.srcStation
  | .noticeHold | .noticeRelease | .restoreSweep | .restoreDirect | .restoreCancel => s.fromInterlocking hdr

/-- The payload length the table of 1.3 gives a request code (R163 step 4). -/
def RequestCode.lengthIs (c : RequestCode) (len : Nat) : Prop :=
  match c with
  | .mode | .readmit | .capture | .restoreSweep | .restoreDirect | .restoreCancel => len = 3
  | .write => 5 ≤ len
  | .read => len = 5
  | .status => len = 4
  | .restart | .noticeHold | .noticeRelease => len = 2
  | .watchSet => len = 12

/-- The row of the opcode table of a request code. -/
def RequestCode.row (c : RequestCode) (hdr : Header) (tag : Byte) (params : List Byte) : Instr :=
  match c with
  | .mode => .mode hdr tag params
  | .write => .write hdr tag params
  | .read => .read hdr tag params
  | .status => .status hdr tag params
  | .readmit => .readmit hdr tag params
  | .restart => .restart hdr tag params
  | .noticeHold => .noticeHold hdr tag params
  | .noticeRelease => .noticeRelease hdr tag params
  | .watchSet => .watchSet hdr tag params
  | .capture => .capture hdr tag params
  | .restoreSweep => .restoreSweep hdr tag params
  | .restoreDirect => .restoreDirect hdr tag params
  | .restoreCancel => .restoreCancel hdr tag params

/-- What every checked line frame does before it is routed: it is offered to the watch unit, the link is UP
and the silence timer runs for the silence limit (R3, R8). -/
def State.heard (s : State) (f : Frame) : State :=
  { s with
      watch := (s.offer true f).watch
      linePort := { s.linePort with
        link := .up
        silence := some (s.partTime + BitVec.ofNat 32 (s.tables.part.silenceLimit.toNat * 500)) } }

/-- An ANSWER to the sender joins the answer queue (1.3, R6, R12). -/
def State.answered (s : State) (hdr : Header) (code tag : Byte) (r : Reply) (restart : Bool := false) : State :=
  { s with linePort := { s.linePort with answers := s.linePort.answers ++
      [⟨⟨⟨hdr.srcStation, hdr.srcNode, s.pins.ownStation.getD 0, 0⟩, 0x42, [code, tag, r.result.code] ++ r.data⟩, restart⟩] } }

/-- A request answered as it stands, with nothing else done. -/
def State.answersOnly (s : State) (c : RequestCode) (hdr : Header) (tag : Byte) (params : List Byte) (r : Reply) : Prop :=
  exec (c.row hdr tag params) s = .next ((s.heard (requestOperand hdr c tag params)).answered hdr c.byte tag r)

/-- The sender of a head order is permitted (R17 step 1); station 0 is no sender's name (assumption 9). -/
def State.mayOrder (s : State) (hdr : Header) : Prop :=
  (s.tables.part.interlocking = 0 ∧ s.tables.part.maintenance = 0) ∨ s.fromInterlocking hdr ∨
    (s.tables.part.maintenance ≠ 0 ∧ s.tables.part.maintenance = hdr.srcStation)

/-- The node of a head order has a route (R17 step 2). -/
def State.orderRoute (s : State) (hdr : Header) : Prop :=
  hdr.dstNode = 255 ∨ (∃ k : Fin 32, s.tables.heads[k].used = true ∧ s.tables.heads[k].address = hdr.dstNode) ∨
    (¬(s.tables.part.passFirst = 0 ∧ s.tables.part.passLast = 0) ∧
      s.tables.part.passFirst.toNat ≤ hdr.dstNode.toNat ∧ hdr.dstNode.toNat ≤ s.tables.part.passLast.toNat)

/-! ## Reaching the head supervisor from the field -/

/-- The lowest used head slot with this head address (R18). -/
def State.claims (s : State) (k : Fin 32) (node : Byte) : Prop :=
  (s.tables.heads[k].used = true ∧ s.tables.heads[k].address = node) ∧
    ∀ j : Fin 32, j < k → ¬(s.tables.heads[j].used = true ∧ s.tables.heads[j].address = node)

/-- What every checked field frame does before it is evaluated: it is offered to the watch unit, and a
forwarded copy joins the forward queue, which drops its oldest when it holds 16 (R3, R13, R19). -/
def State.fieldHeard (s : State) (f : Frame) : State :=
  { s with
      watch := (s.offer false f).watch
      linePort := if s.forwards f then
          { s.linePort with forward := s.linePort.forward.drop (if s.linePort.forward.length < 16 then 0 else 1) ++ [s.stamped f] }
        else s.linePort
      tallies := if s.forwards f ∧ 16 ≤ s.linePort.forward.length then
          { s.tallies with forwardDropped := oneMore s.tallies.forwardDropped }
        else s.tallies }

/-- A LIFE or WHEEL frame with this header reaches the head supervisor for slot `k`. -/
def State.toSupervisor (s : State) (hdr : Header) (k : Fin 32) : Prop :=
  s.fieldOn ∧ s.mode = .run ∧ s.claims k hdr.srcNode

/-- NORMAL, LATE or LOST: the states with a sequence chain (R20). -/
def SourceState.chained (st : SourceState) : Prop := st = .normal ∨ st = .late ∨ st = .lost

/-! ## Table records as bytes (1.4) -/

/-- Field `f`, counted from 0 in the layout order of 1.4, of a record's bytes is out of its range (R168). A pass
window out of range is field 4; the alarm mask, the spare byte, and a filter's address and mask take any value. -/
def TableId.outOfRange (id : TableId) (r : List Byte) (f : Nat) : Prop :=
  let byte (i : Nat) := (byteAt r i).toNat
  let half (i : Nat) := (halfAt r i).toNat
  match id with
  | .part =>
    (f = 0 ∧ 239 < byte 0) ∨ (f = 1 ∧ 239 < byte 1) ∨ (f = 2 ∧ 239 < byte 2) ∨
    (f = 4 ∧ ¬(byte 3 = 0 ∧ byte 4 = 0) ∧ ¬(1 ≤ byte 3 ∧ byte 3 ≤ byte 4 ∧ byte 4 ≤ 63)) ∨
    (f = 5 ∧ (byte 5 < 10 ∨ 200 < byte 5)) ∨ (f = 6 ∧ (byte 6 < 5 ∨ 100 < byte 6)) ∨ (f = 7 ∧ (byte 7 < 2 ∨ 50 < byte 7))
  | .head =>
    (f = 0 ∧ 63 < byte 0) ∨ (f = 1 ∧ (half 1 < 80 ∨ 300 < half 1)) ∨ (f = 2 ∧ 7 < byte 3) ∨
    (f = 3 ∧ (byte 4 < 2 ∨ 50 < byte 4)) ∨ (f = 4 ∧ 3 < byte 5) ∨ (f = 5 ∧ (half 6 < 20 ∨ 400 < half 6)) ∨ (f = 6 ∧ 239 < byte 8)
  | .relay =>
    (f = 0 ∧ 239 < byte 0) ∨ (f = 1 ∧ (byte 1 < 1 ∨ 63 < byte 1)) ∨ (f = 2 ∧ (byte 2 < 5 ∨ 100 < byte 2)) ∨
    (f = 3 ∧ ∃ i ∈ [2, 3, 4, 5, 6], (byteAt r 3).getLsbD i = true)
  | .sec => (f = 0 ∧ 3 < byte 0) ∨ (f = 1 ∧ (half 1 < 1 ∨ 4095 < half 1)) ∨ (f = 2 ∧ (byte 3 < 5 ∨ 120 < byte 3))
  | .boundary => (f = 0 ∧ 23 < byte 0 ∧ byte 0 ≠ 255) ∨ (f = 1 ∧ 39 < byte 1) ∨ (f = 2 ∧ 1 < byte 2)
  | .filter => f = 2 ∧ 3 < byte 2
  | .line => (f = 0 ∧ 4 < byte 0) ∨ (f = 1 ∧ 23 < byte 1) ∨ (f = 2 ∧ 1 < byte 2)

/-- Record `i` of a table holds what the bytes spell, field by field in the layout of 1.4. -/
def Tables.spells (t : Tables) (id : TableId) (i : Nat) (r : List Byte) : Prop :=
  let bit (j n : Nat) : Bool := (byteAt r j).getLsbD n
  let loss (b : Bool) : LossAction := if b then .disturb else .hold
  match id with
  | .part => t.part = ⟨byteAt r 0, byteAt r 1, byteAt r 2, byteAt r 3, byteAt r 4, byteAt r 5, byteAt r 6, byteAt r 7,
      byteAt r 8 ++ byteAt r 9 ++ byteAt r 10⟩
  | .head => ∀ k : Fin 32, k.val = i → t.heads[k] = ⟨byteAt r 0, halfAt r 1, bit 3 0, loss (bit 3 1), bit 3 2, byteAt r 4,
      Fin.ofNat 4 (byteAt r 5).toNat, halfAt r 6, byteAt r 8⟩
  | .relay => ∀ c : Fin 8, c.val = i → t.relays[c] = ⟨byteAt r 0, byteAt r 1, byteAt r 2, Fin.ofNat 4 (byteAt r 3).toNat,
      loss (bit 3 7)⟩
  | .sec => ∀ k : Fin 24, k.val = i → t.sections[k] = ⟨bit 0 0, bit 0 1, halfAt r 1, byteAt r 3⟩
  | .boundary => ∀ e : Fin 96, e.val = i →
      (byteAt r 0 = 255 → t.boundaries[e].sec = none) ∧
      (∀ k : Fin 24, (byteAt r 0).toNat = k.val → t.boundaries[e].sec = some k) ∧
      t.boundaries[e].source.val = (byteAt r 1).toNat ∧
      t.boundaries[e].sense = (if byteAt r 2 = 1 then .intoOnDown else .intoOnUp)
  | .filter => ∀ e : Fin 4, e.val = i → t.filters[e] = ⟨byteAt r 0, byteAt r 1, bit 2 0, bit 2 1⟩
  | .line => ∀ l : Fin 8, l.val = i →
      t.lines[l].function.code = byteAt r 0 ∧ t.lines[l].sec.val = (byteAt r 1).toNat ∧
      t.lines[l].polarity = (if byteAt r 2 = 1 then .inverted else .normal)

/-! ## Sections and their boundaries -/

/-- The source is a boundary source of the section (R66). -/
def State.bounds (s : State) (n : Fin 40) (k : Fin 24) : Prop :=
  ∃ e : Fin 96, s.tables.boundaries[e].sec = some k ∧ s.tables.boundaries[e].source = n

/-- A source that keeps the warning on its sections (R100). -/
def State.troubles (s : State) (n : Fin 40) : Prop :=
  s.sourceState n = .late ∨
    ∃ j : Fin 32, headSource j = n ∧ (s.heads[j].healthA = .degraded ∨ s.heads[j].healthB = .degraded)

/-- The section is eligible for direct restore (R109). -/
def State.eligible (s : State) (k : Fin 24) : Prop :=
  s.tables.sections[k].directPermitted = true ∧
    (∃ c ∈ [Cause.start, .restart, .headLost, .relayLost, .cancelled, .restoreTimeout], s.sections[k].cause = some c) ∧
    s.sections[k].repeated = false ∧ s.sections[k].activity = false

/-- An active INHIBIT_IN line names the section (R107 check 3). -/
def State.inhibits (s : State) (k : Fin 24) : Prop :=
  ∃ l : Fin 8, s.tables.lines[l].function = .inhibitIn ∧ s.tables.lines[l].sec = k ∧ s.sensed l = true

/-- Every check of R107 passes. -/
def State.restorable (s : State) (kind : RestoreKind) (k : Fin 24) : Prop :=
  s.mode = .run ∧ s.tables.sections[k].inUse = true ∧ ¬s.inhibits k ∧ s.sections[k].state = .disturbed ∧
    100000 ≤ (s.partTime - s.sections[k].disturbedTime).toNat ∧ (kind = .direct → s.eligible k)

/-- The request code of a restore order of each kind. -/
def RestoreKind.request : RestoreKind → RequestCode
  | .sweep => .restoreSweep
  | .direct => .restoreDirect

/-! ## Conditions that hold in every state of a run -/

/-- No queue is above its size (R7, R12, R13, R122, R158, R159). -/
def State.QueuesBounded (s : State) : Prop :=
  s.fieldPort.orders.length ≤ 8 ∧ s.linePort.answers.length ≤ 8 ∧ s.linePort.forward.length ≤ 16 ∧
    s.watch.captures.length ≤ 8 ∧ s.watch.notices.length ≤ 8 ∧ ∀ k : Fin 32, s.relayOut[k].pending.length ≤ 4

/-- In CONFIG every section is OFF (R79). -/
def State.ConfigOff (s : State) : Prop := s.mode = .config → ∀ k : Fin 24, s.sections[k].state = .off

/-- The restore timer of a section runs in RESTORE_WAIT and in no other state (R105). -/
def State.RestoreTimersFollow (s : State) : Prop :=
  s.ConfigOff ∧ ∀ k : Fin 24, s.restoreTimers[k].isSome = true ↔ s.sections[k].state = .restoreWait

/-- A section's count, tallies, swept flag and optional fields fit its state (R78, R89, R90, R91). While the
in-tally has not saturated, a section outside OFF holds what came in less what went out. -/
def SecRun.sound (r : SecRun) (ceiling : Nat) : Prop :=
  r.count ≤ ceiling ∧
  (r.state = .off ∨ r.state = .restoreWait ∨ r.state = .settling ∨ r.state = .clear → r.count = 0) ∧
  (r.state = .occupied → 1 ≤ r.count) ∧
  (r.state = .sweep → (r.swept = true ↔ 1 ≤ r.count)) ∧
  (r.cause.isSome = true ↔ r.state = .disturbed) ∧
  (r.causeSource.isSome = true → r.state = .disturbed) ∧
  (r.restoreKind.isSome = true ↔ r.state = .restoreWait ∨ r.state = .sweep) ∧
  (r.state = .sweep → r.restoreKind = some .sweep) ∧
  r.outTally.toNat ≤ r.inTally.toNat ∧
  (r.state ≠ .off → r.inTally.toNat < 65535 → r.outTally.toNat + r.count = r.inTally.toNat)

/-- Every section is sound, and every ceiling lies in 1 to 4095 (R90). -/
def State.SectionsSound (s : State) : Prop :=
  s.ConfigOff ∧ ∀ k : Fin 24, s.sections[k].sound s.tables.sections[k].ceiling.toNat ∧
    1 ≤ s.tables.sections[k].ceiling.toNat ∧ s.tables.sections[k].ceiling.toNat ≤ 4095

/-- A section is CLEAR only in RUN, at count 0, with every boundary source NORMAL or LATE (R81); a section in
SETTLING holds count 0 (R92). -/
def State.ClearIsProven (s : State) : Prop :=
  s.ConfigOff ∧ ∀ k : Fin 24,
    (s.sections[k].state = .settling → s.sections[k].count = 0) ∧
    (s.sections[k].state = .clear → s.mode = .run ∧ s.sections[k].count = 0 ∧
      ∀ n, s.bounds n k → s.sourceState n = .normal ∨ s.sourceState n = .late)

/-- Every output latch equals its condition (R178). -/
def State.LatchesFollow (s : State) : Prop :=
  ∀ l : Fin 8,
    (s.tables.lines[l].function = .sectionOut →
      (s.lines[l].latch = true ↔ s.sections[s.tables.lines[l].sec].state = .clear)) ∧
    (s.tables.lines[l].function = .alarmOut →
      (s.lines[l].latch = true ↔ s.mode = .config ∨ ∃ k : Fin 24, s.tables.part.alarmMask.getLsbD k.val = true ∧
        (s.sections[k].state = .disturbed ∨ s.sections[k].state = .restoreWait)))

/-- The optional fields of a recognition record are present as its state gives (R43). -/
def Recog.sound (r : Recog) : Prop :=
  (r.onNote.isSome = true ↔ r.state = .aFromA ∨ r.state = .bFromB ∨ r.state = .bothFromA ∨ r.state = .bothFromB) ∧
    (r.offNote.isSome = true ↔ r.state = .bFromA ∨ r.state = .aFromB)

/-- The optional fields of a head slot's record are present as its state gives (R20, R33, R43, R44). -/
def HeadRun.sound (h : HeadRun) : Prop :=
  (h.expected.isSome = true ↔ h.state.chained) ∧ (h.timer.isSome = true ↔ h.state.chained) ∧
  (h.fault.isSome = true ↔ h.state = .faulty) ∧
  (h.state.chained → h.anchor.isSome = true) ∧ (h.state = .off ∨ h.state = .awaiting → h.anchor = none) ∧
  h.recog.sound ∧
  (¬h.state.chained → h.recog.state = .vacant ∧ h.recog.lastEdge = none)

/-- The optional fields of a channel's record are present as its state gives; no channel is IN_TEST (R130). -/
def Channel.sound (c : Channel) : Prop :=
  (c.expected.isSome = true ↔ c.state.chained) ∧ (c.timer.isSome = true ↔ c.state.chained) ∧
    (c.fault.isSome = true ↔ c.state = .faulty) ∧ c.state ≠ .inTest

/-- Every head slot's and every channel's record is sound. -/
def State.SourcesSound (s : State) : Prop := (∀ k : Fin 32, s.heads[k].sound) ∧ ∀ c : Fin 8, s.channels[c].sound

/-- The warning flag of a section is set exactly while a boundary source is LATE or holds a health of
DEGRADED, and never in OFF (R100). -/
def State.WarningsFollow (s : State) : Prop :=
  s.ConfigOff ∧ ∀ k : Fin 24,
    (s.sections[k].warning = true ↔ s.sections[k].state ≠ .off ∧ ∃ n, s.bounds n k ∧ s.troubles n)

/-- In RUN the tables are tables that pass validation (R70). -/
def State.RunTablesValid (s : State) : Prop := s.mode = .run → s.tables.validate s.pins.ownStation = none

end Sys2Proof.Machine
end

