-- ==== Sys2Proof/Certificates/Slice0/Obligations.lean ====
section
/-! DEFINITION. The statements about the DK24, for the provers. `u` is always the state in which a received
frame is routed: `State.heard` and `State.fieldHeard` say what every checked frame does before that. -/

open Sys2Proof Sys2Proof.Machine

/-! ## The block as a whole -/

/-- A step takes the command at the front of the queue and runs it with the queue's rest. With none waiting, one
tick of part time passes, and none while the reset pin is low: that part is the model's own choice (assumption 4). -/
def Obligations.StepTakesFrontCommand : Prop :=
  (∀ (c : Instr) (rest : List Instr) (s : State), s.pending = c :: rest → step s = exec c { s with pending := rest }) ∧
  (∀ s : State, s.pending = [] →
    step s = .next (if s.pins.resetLow then s else { s with partTime := s.partTime + 1 }))

/-- Every command answers a next state and leaves the commands that wait behind it as they are. That none faults is
the model's inference (assumption 15), and the queue that is kept is its own field (assumptions 4 and 13). -/
def Obligations.EveryCommandCompletes : Prop :=
  ∀ (c : Instr) (s : State), ∃ t : State, exec c s = .next t ∧ t.pending = s.pending

/-- Hardware reset (R181): every block at its hardware-reset values (R5, R14, R21, R79, R122, R130, R139, R162),
the straps and RATE read (R176). The levels the board puts on the local lines are not the part's (assumption 13).
`State.reset` is such a state with every pin open, which is the model's choice (assumption 1). -/
def Obligations.HardwareResetValues : Prop :=
  (exec (.hardwareReset 0xFF .high) State.reset = .next State.reset ∧ State.reset.pending = [] ∧
    ∀ l : Fin 8, State.reset.lines[l].board = .high) ∧
  ∀ (straps : Byte) (ratePin : PinLevel) (s : State),
    exec (.hardwareReset straps ratePin) s = .next
      { pending := s.pending
        pins := ⟨false, if 1 ≤ straps.toNat ∧ straps.toNat ≤ 239 then some straps else none, ratePin⟩
        partTime := 0
        mode := .config
        pendingRestart := false
        tables :=
          { part := ⟨0, 0, 0, 0, 0, 50, 20, 10, 0⟩
            heads := Vector.replicate 32 ⟨0, 140, false, .hold, false, 10, 1, 250, 0⟩
            relays := Vector.replicate 8 ⟨0, 1, 20, 1, .hold⟩
            sections := Vector.replicate 24 ⟨false, false, 4095, 30⟩
            boundaries := Vector.replicate 96 ⟨none, 0, .intoOnUp⟩
            filters := Vector.replicate 4 ⟨0, 0, false, false⟩
            lines := Vector.replicate 8 ⟨.off, 0, .normal⟩ }
        tallies := ⟨0, 0, 0, 0, 0, 0⟩
        fieldPort := ⟨[], none⟩
        linePort := ⟨.down, none, [], [], none, 31, 23⟩
        heads := Vector.replicate 32 ⟨.off, none, 0, 0, 0, none, none, 0, .ok, .ok, 0, ⟨.vacant, none, none, none, 0⟩, none⟩
        relayOut := Vector.replicate 32 ⟨0, [], false, false, none⟩
        channels := Vector.replicate 8 ⟨.off, none, 0, none, .awaiting, none⟩
        sections := Vector.replicate 24 ⟨.off, 0, 0, 0, 0, false, none, none, false, false, false, 0, none⟩
        restoreTimers := Vector.replicate 24 none
        notice := ⟨Vector.replicate 24 false, .free, some 50000, false⟩
        watch := ⟨Vector.replicate 4 ⟨.off, .field, 0, 0, 0, none⟩, [], []⟩
        lines := tab fun l => ⟨false, s.lines[l].board, .idle, none⟩ }

/-- What the part drives on a local line (R177): an output latch under its polarity, and nothing on a line that is
no output or while the reset pin is low; what it senses there, the pin being low while the part or the board pulls
it (assumption 2). The reset pin low (R181): frames in transmission are cut off, every local line pin is released,
and until the release no command but the reset's own and a change of a board level changes anything (assumption 5). -/
def Obligations.ResetPinHoldsThePart : Prop :=
  (∀ (s : State) (l : Fin 8),
    let line := s.tables.lines[l]
    let pinLow := s.drivesLow l = true ∨ s.lines[l].board = .low
    (s.drivesLow l = true ↔ s.pins.resetLow = false ∧ (line.function = .sectionOut ∨ line.function = .alarmOut) ∧
      ((line.polarity = .normal ∧ s.lines[l].latch = true) ∨ (line.polarity = .inverted ∧ s.lines[l].latch = false))) ∧
    (s.sensed l = true ↔ (line.polarity = .normal ∧ pinLow) ∨ (line.polarity = .inverted ∧ ¬pinLow))) ∧
  (∀ s : State, ∃ t : State, exec .resetPinLow s = .next t ∧
    t = { s with
            pins := { s.pins with resetLow := true }
            fieldPort := { s.fieldPort with tx := none }
            linePort := { s.linePort with tx := none } } ∧
    ∀ l : Fin 8, t.drivesLow l = false) ∧
  (∀ (c : Instr) (s : State), s.pins.resetLow = true → (∀ a b, c ≠ .hardwareReset a b) → c ≠ .resetPinLow →
    (∀ l v, c ≠ .localLineLevelChange l v) → exec c s = .next s) ∧
  (∀ (l : Fin 8) (v : PinLevel) (s : State), s.pins.resetLow = true →
    exec (.localLineLevelChange l v) s = .next { s with lines := upd s.lines l { s.lines[l] with board := v } })

/-- The invariants below hold right after a hardware reset with any straps and either RATE. -/
def Obligations.ResetMeetsEveryInvariant : Prop :=
  ∀ (straps : Byte) (ratePin : PinLevel),
    let s := State.atReset straps ratePin
    s.QueuesBounded ∧ s.RestoreTimersFollow ∧ s.SectionsSound ∧ s.ClearIsProven ∧ s.LatchesFollow ∧
      s.SourcesSound ∧ s.WarningsFollow ∧ s.RunTablesValid

/-! ## Invariants: every step keeps them -/

/-- No queue grows above its size (R7, R12, R13, R122, R158, R159). -/
def Obligations.QueuesStayBounded : Prop := ∀ s t : State, s.QueuesBounded → step s = .next t → t.QueuesBounded

/-- Every restore timer runs in RESTORE_WAIT and in no other state (R105). -/
def Obligations.RestoreTimersStayWithTheirSections : Prop :=
  ∀ s t : State, s.RestoreTimersFollow → step s = .next t → t.RestoreTimersFollow

/-- Counts, tallies and the optional fields of sections stay sound (R78, R89, R90, R91). -/
def Obligations.SectionsStaySound : Prop := ∀ s t : State, s.SectionsSound → step s = .next t → t.SectionsSound

/-- CLEAR stays proven: RUN, count 0, every boundary source NORMAL or LATE (R81). -/
def Obligations.ClearStaysProven : Prop := ∀ s t : State, s.ClearIsProven → step s = .next t → t.ClearIsProven

/-- Every output latch goes on following its condition (R178). -/
def Obligations.LatchesKeepFollowing : Prop := ∀ s t : State, s.LatchesFollow → step s = .next t → t.LatchesFollow

/-- The optional fields of heads and channels stay present as their states give (R20, R43, R130). -/
def Obligations.SourcesStaySound : Prop := ∀ s t : State, s.SourcesSound → step s = .next t → t.SourcesSound

/-- Every warning flag goes on following its boundary sources (R100). -/
def Obligations.WarningsKeepFollowing : Prop := ∀ s t : State, s.WarningsFollow → step s = .next t → t.WarningsFollow

/-- In RUN the tables stay tables that pass validation (R70). -/
def Obligations.RunTablesStayValid : Prop := ∀ s t : State, s.RunTablesValid → step s = .next t → t.RunTablesValid

/-- Validation (R71 to R77): tables pass exactly when no record offends, and tables that fail are answered with
the first failing check, its table and the lowest offending record of it. Then what validated tables guarantee
(R66, R72, R73, R75, R76). -/
def Obligations.ValidatedTopology : Prop :=
  ∀ (t : Tables) (own : Option Byte),
    let slot (k : Fin 32) := 1 ≤ t.heads[k].address.toNat ∧ t.heads[k].address.toNat ≤ 63
    let channel (c : Fin 8) := 1 ≤ t.relays[c].station.toNat ∧ t.relays[c].station.toNat ≤ 239
    let earlier (e j : Fin 96) := j < e ∧ t.boundaries[j].sec ≠ none ∧ t.boundaries[j].source = t.boundaries[e].source
    let entries (x : Fin 24) := (List.finRange 96).countP fun e => t.boundaries[e].sec = some x
    let offends1 (k : Fin 32) : Prop := slot k ∧ ∃ j, j ≠ k ∧ slot j ∧ t.heads[j].address = t.heads[k].address
    let offends2 (c : Fin 8) : Prop := channel c ∧ (own = some t.relays[c].station ∨ ∃ d, d ≠ c ∧ channel d ∧
      t.relays[d].station = t.relays[c].station ∧ t.relays[d].headAddress = t.relays[c].headAddress)
    let offends3 (e : Fin 96) : Prop := ∃ x, t.boundaries[e].sec = some x ∧ (t.sections[x].inUse = false ∨
      (¬(∃ k, headSource k = t.boundaries[e].source ∧ slot k) ∧ ¬∃ c, channelSource c = t.boundaries[e].source ∧ channel c))
    let offends4 (e : Fin 96) : Prop := t.boundaries[e].sec ≠ none ∧ ((∃ i j, i < j ∧ earlier e i ∧ earlier e j) ∨
      ∃ j, earlier e j ∧ (t.boundaries[j].sec = t.boundaries[e].sec ∨ t.boundaries[j].sense = t.boundaries[e].sense))
    let offends5 (x : Fin 24) : Prop := t.sections[x].inUse = true ∧ (entries x = 0 ∨ 6 < entries x)
    let offends6 (l : Fin 8) : Prop := (t.lines[l].function = .sectionOut ∨ t.lines[l].function = .restoreIn ∨
      t.lines[l].function = .inhibitIn) ∧ t.sections[t.lines[l].sec].inUse = false
    let offends7 : Prop := t.part.interlocking = 0 ∨ t.part.maintenance = 0
    (∀ k, t.heads[k].used = true ↔ slot k) ∧ (∀ c, t.relays[c].used = true ↔ channel c) ∧
    let pass1 := ∀ k, ¬offends1 k
    let pass2 := pass1 ∧ ∀ c, ¬offends2 c
    let pass3 := pass2 ∧ ∀ e, ¬offends3 e
    let pass4 := pass3 ∧ ∀ e, ¬offends4 e
    let pass5 := pass4 ∧ ∀ x, ¬offends5 x
    let pass6 := pass5 ∧ ∀ l, ¬offends6 l
    (t.validate own = none ↔ pass6 ∧ ¬offends7) ∧
    (∀ o : Offence, t.validate own = some o ↔
      (o.check = 1 ∧ o.table = 2 ∧ LowestIndex offends1 o.index) ∨
      (pass1 ∧ o.check = 2 ∧ o.table = 3 ∧ LowestIndex offends2 o.index) ∨
      (pass2 ∧ o.check = 3 ∧ o.table = 5 ∧ LowestIndex offends3 o.index) ∨
      (pass3 ∧ o.check = 4 ∧ o.table = 5 ∧ LowestIndex offends4 o.index) ∨
      (pass4 ∧ o.check = 5 ∧ o.table = 4 ∧ LowestIndex offends5 o.index) ∨
      (pass5 ∧ o.check = 6 ∧ o.table = 7 ∧ LowestIndex offends6 o.index) ∨
      (pass6 ∧ offends7 ∧ o.check = 7 ∧ o.table = 1 ∧ o.index = 0)) ∧
    (t.validate own = none →
    (∀ j k : Fin 32, t.heads[j].used = true → t.heads[k].used = true → t.heads[j].address = t.heads[k].address → j = k) ∧
    (∀ c d : Fin 8, t.relays[c].used = true → t.relays[d].used = true → t.relays[c].station = t.relays[d].station →
      t.relays[c].headAddress = t.relays[d].headAddress → c = d) ∧
    (∀ c : Fin 8, t.relays[c].used = true → own ≠ some t.relays[c].station) ∧
    (∀ (e : Fin 96) (k : Fin 24), t.boundaries[e].sec = some k →
      t.sections[k].inUse = true ∧ t.sourceUsed t.boundaries[e].source = true) ∧
    (∀ n : Fin 40, (t.entriesOfSource n).length ≤ 2 ∧
      ∀ a b, t.entriesOfSource n = [a, b] → a.1 ≠ b.1 ∧ a.2 ≠ b.2) ∧
    (∀ k : Fin 24, t.sections[k].inUse = true →
      1 ≤ (t.boundarySources k).length ∧ (t.boundarySources k).length ≤ 6 ∧ (t.boundarySources k).Nodup) ∧
    t.part.interlocking ≠ 0 ∧ t.part.maintenance ≠ 0)

/-! ## Frames and ports (chapter 1) -/

/-- A frame on the wire (1.1): its bytes with the check of R2, bit by bit, and the byte order. A run that carries
them is judged at a port as the frame it is, header, kind and payload whole, or damaged when the length rule of
R3 is broken; with any one bit of them flipped it is damaged. Every frame row does what its frame's run does at its
port, with the payload laid out as 1.2 and 1.3 give it. -/
def Obligations.WireFrameReadsBack : Prop :=
  (∀ f : Frame, f.payload.length ≤ 64 →
    f.body = [f.hdr.dstStation, f.hdr.dstNode, f.hdr.srcStation, f.hdr.srcNode, f.kind, BitVec.ofNat 8 f.payload.length] ++
      f.payload ∧
    f.wire = f.body ++ [(crc f.body).extractLsb' 8 8, (crc f.body).extractLsb' 0 8] ∧
    (∀ run, Carries run f.wire →
      (LengthFits f.kind f.payload → judgeRun run = .checked f) ∧
      (¬LengthFits f.kind f.payload → judgeRun run = .damaged .badLength)) ∧
    ∀ run j i, j < f.wire.length → i < 8 → Carries run (f.wire.set j (byteAt f.wire j ^^^ BitVec.ofNat 8 (2 ^ i))) →
      ∃ w, judgeRun run = .damaged w) ∧
  (crc [] = 0xFFFF ∧ ∀ (bs : List Byte) (b : Byte), crc (bs ++ [b]) = [7, 6, 5, 4, 3, 2, 1, 0].foldl
    (fun (reg : Half) i => if reg.getLsbD 15 = b.getLsbD i then reg <<< 1 else (reg <<< 1) ^^^ 0x1021) (crc bs)) ∧
  ((∀ x, bytes16 x = [x.extractLsb' 8 8, x.extractLsb' 0 8]) ∧
    (∀ x, bytes32 x = [x.extractLsb' 24 8, x.extractLsb' 16 8, x.extractLsb' 8 8, x.extractLsb' 0 8]) ∧
    ∀ bs i, byteAt bs i = bs.getD i 0 ∧ halfAt bs i = byteAt bs i ++ byteAt bs (i + 1)) ∧
  ∀ (s : State) (hdr : Header) (run : List RxChar),
    let onField (i : Instr) (kind : Byte) (payload : List Byte) : Prop :=
      Carries run (⟨hdr, kind, payload⟩ : Frame).wire → exec i s = exec (.fieldFrameReceived run) s
    let onLine (i : Instr) (kind : Byte) (payload : List Byte) : Prop :=
      Carries run (⟨hdr, kind, payload⟩ : Frame).wire → exec i s = exec (.lineFrameReceived run) s
    (∀ seq ts a b st, onField (.life hdr seq ts a b st) 0x11 ([seq] ++ bytes16 ts ++ [a, b, st])) ∧
    (∀ seq flags (edges : List EdgeOperand), edges.length ≤ 20 → onField (.wheel hdr seq flags edges) 0x12
      ([seq, flags, BitVec.ofNat 8 edges.length] ++ edges.flatMap fun e => [e.edge] ++ bytes16 e.stamp)) ∧
    onLine (.keep hdr) 0x61 [] ∧
    (∀ seq origin status (ps : List PassageOperand), ps.length ≤ 20 → onLine (.relay hdr seq origin status ps) 0x31
      ([seq, origin, status, BitVec.ofNat 8 ps.length] ++ ps.flatMap fun p => [p.direction] ++ bytes16 p.speed)) ∧
    (∀ code params, params.length ≤ 63 → onLine (.order hdr code params) 0x21 (code :: params)) ∧
    (∀ params, params.length ≤ 63 → onLine (.testStart hdr params) 0x21 (0x01 :: params)) ∧
    (∀ (c : RequestCode) tag params, params.length ≤ 62 → onLine (c.row hdr tag params) 0x41 ([c.byte, tag] ++ params)) ∧
    exec (.lineDamagedFrame run) s = exec (.lineFrameReceived run) s

/-- The five conditions of R3, its table of length rules among them, and no other make a run of characters a
damaged frame, and a damaged frame is counted at its port and does nothing else. -/
def Obligations.DamagedFramesAreOnlyCounted : Prop :=
  (∀ run : List RxChar,
    let got := (run.filter (·.stopGood)).map (·.data)
    let len := (byteAt got 5).toNat
    ((∃ w, judgeRun run = .damaged w) ↔
      got.length < 8 ∨ crc (got.take (6 + len)) ≠ halfAt got (6 + len) ∨ 64 < len ∨ got.length ≠ 8 + len ∨
        ¬LengthFits (byteAt got 4) ((got.drop 6).take len))) ∧
  (∀ (run : List RxChar) (w : Damage) (s : State), judgeRun run = .damaged w →
    (s.fieldOn → exec (.fieldFrameReceived run) s =
      .next { s with tallies := { s.tallies with fieldDamaged := oneMore s.tallies.fieldDamaged } }) ∧
    (s.lineOn → ∀ i ∈ [Instr.lineFrameReceived run, .lineDamagedFrame run], exec i s =
      .next { s with tallies := { s.tallies with lineDamaged := oneMore s.tallies.lineDamaged } }))

/-- While a port transmits its receiver is off (R1): no frame row of that port changes anything (assumption 6). -/
def Obligations.TransmittingPortsAreDeaf : Prop :=
  ∀ s : State,
    (s.fieldPort.tx ≠ none → (∀ run, exec (.fieldFrameReceived run) s = .next s) ∧
      (∀ hdr q ts a b st, exec (.life hdr q ts a b st) s = .next s) ∧ ∀ hdr q fl es, exec (.wheel hdr q fl es) s = .next s) ∧
    (s.linePort.tx ≠ none → (∀ run, exec (.lineFrameReceived run) s = .next s ∧ exec (.lineDamagedFrame run) s = .next s) ∧
      (∀ hdr, exec (.keep hdr) s = .next s) ∧ (∀ hdr q o st ps, exec (.relay hdr q o st ps) s = .next s) ∧
      (∀ hdr code ps, exec (.order hdr code ps) s = .next s) ∧ (∀ hdr ps, exec (.testStart hdr ps) s = .next s) ∧
      ∀ (c : RequestCode) hdr tag ps, exec (c.row hdr tag ps) s = .next s)

/-- Evaluation of a checked field frame (R18). -/
def Obligations.FieldFramesAreEvaluated : Prop :=
  ∀ (s : State) (run : List RxChar) (f : Frame), s.fieldOn → judgeRun run = .checked f →
    let u := s.fieldHeard f
    (s.mode = .config → exec (.fieldFrameReceived run) s = .next u) ∧
    ((∀ k, ¬s.claims k f.hdr.srcNode) → exec (.fieldFrameReceived run) s = .next u) ∧
    (∀ k, s.mode = .run → s.claims k f.hdr.srcNode →
      (f.kind = 0x11 → exec (.fieldFrameReceived run) s = .next (u.lifeFrame k (lifeFields f.payload))) ∧
      (f.kind = 0x12 → exec (.fieldFrameReceived run) s =
        .next (u.wheelFrame k (byteAt f.payload 0) (byteAt f.payload 1) (wheelEdges f.payload))) ∧
      (f.kind ≠ 0x11 → f.kind ≠ 0x12 → exec (.fieldFrameReceived run) s =
        .next { u with tallies := { u.tallies with unknown := oneMore u.tallies.unknown } }))

/-- Forwarding of a checked field frame (R19, R13): which frames are copied, what the copy carries, where it goes.
That an unaddressed part stamps 0 as its own station is the model's own inference (assumption 8). -/
def Obligations.FieldFramesAreForwarded : Prop :=
  ∀ (s : State) (run : List RxChar) (f : Frame), s.fieldOn → judgeRun run = .checked f →
    ∃ t : State, exec (.fieldFrameReceived run) s = .next t ∧
      let wanted := s.tables.part.recorder ≠ 0 ∧ ∃ e : Fin 4, s.tables.filters[e].enabled = true ∧
        (∀ i, i < 8 → s.tables.filters[e].mask.getLsbD i = false →
          f.hdr.srcNode.getLsbD i = s.tables.filters[e].node.getLsbD i) ∧
        (f.kind = 0x11 → s.tables.filters[e].includeLife = true)
      let copy : Frame := ⟨⟨s.tables.part.recorder, f.hdr.dstNode, s.pins.ownStation.getD 0, f.hdr.srcNode⟩, f.kind, f.payload⟩
      (¬wanted → t.linePort = s.linePort ∧ t.tallies.forwardDropped = s.tallies.forwardDropped) ∧
      (wanted → s.linePort.forward.length < 16 →
        t.linePort = { s.linePort with forward := s.linePort.forward ++ [copy] } ∧
        t.tallies.forwardDropped = s.tallies.forwardDropped) ∧
      (wanted → 16 ≤ s.linePort.forward.length →
        t.linePort = { s.linePort with forward := s.linePort.forward.drop 1 ++ [copy] } ∧
        t.tallies.forwardDropped = oneMore s.tallies.forwardDropped)

/-- Routing of a checked line frame by destination and kind (R15, R16, and R17's other kinds), once it has been
offered to the watch unit and has held the link up (the model's order, assumption 7). -/
def Obligations.LineFramesAreRouted : Prop :=
  ∀ (s : State) (run : List RxChar) (f : Frame), s.lineOn → judgeRun run = .checked f →
    let u := s.heard f
    (s.pins.ownStation ≠ some f.hdr.dstStation → exec (.lineFrameReceived run) s =
      .next { u with tallies := { u.tallies with misrouted := oneMore u.tallies.misrouted } }) ∧
    (s.pins.ownStation = some f.hdr.dstStation → f.hdr.dstNode = 0 →
      (f.kind = 0x41 → exec (.lineFrameReceived run) s = .next (u.request f)) ∧
      (f.kind = 0x31 → exec (.lineFrameReceived run) s = .next (u.relayIn f)) ∧
      (f.kind = 0x61 → exec (.lineFrameReceived run) s = .next u) ∧
      (f.kind ≠ 0x41 → f.kind ≠ 0x31 → f.kind ≠ 0x61 → exec (.lineFrameReceived run) s =
        .next { u with tallies := { u.tallies with unknown := oneMore u.tallies.unknown } })) ∧
    (s.pins.ownStation = some f.hdr.dstStation → f.hdr.dstNode ≠ 0 →
      (f.kind = 0x21 → exec (.lineFrameReceived run) s = .next (u.headOrder f)) ∧
      (f.kind ≠ 0x21 → exec (.lineFrameReceived run) s =
        .next { u with tallies := { u.tallies with unknown := oneMore u.tallies.unknown } }))

/-- A KEEP frame moves the link to UP and restarts the silence timer for the silence limit (R8, R16); to
another station it is counted misrouted too (R15), to another node of the part unknown (R17). -/
def Obligations.KeepHoldsTheLinkUp : Prop :=
  ∀ (s : State) (hdr : Header), s.lineOn →
    let u : State := { s with
      watch := (s.offer true (keepOperand hdr)).watch
      linePort := { s.linePort with
        link := .up, silence := some (s.partTime + BitVec.ofNat 32 (s.tables.part.silenceLimit.toNat * 500)) } }
    (s.pins.ownStation = some hdr.dstStation → hdr.dstNode = 0 → exec (.keep hdr) s = .next u) ∧
    (s.pins.ownStation = some hdr.dstStation → hdr.dstNode ≠ 0 → exec (.keep hdr) s =
      .next { u with tallies := { s.tallies with unknown := oneMore s.tallies.unknown } }) ∧
    (s.pins.ownStation ≠ some hdr.dstStation → exec (.keep hdr) s =
      .next { u with tallies := { s.tallies with misrouted := oneMore s.tallies.misrouted } })

/-- The silence timer's expiry takes the link DOWN and drops answers, forwarded copies and unsent WATCH
notices; a RESTART whose answer was dropped lapses (R8, R9, R174). A relay timer's expiry makes a relay frame
ready and restarts the timer (R125); the round timer's makes the ROUND ready and restarts it (R144). When a timer
has reached its expiry is the model's choice (assumption 3). -/
def Obligations.PortTimersExpire : Prop :=
  (∀ s : State, s.pins.resetLow = false →
    (s.linePort.silence.reached s.partTime → exec .silenceTimerExpiry s = .next
      { s with
          pendingRestart := s.pendingRestart && !s.linePort.answers.any (·.restart)
          linePort := { s.linePort with link := .down, silence := none, answers := [], forward := [] }
          watch := { s.watch with notices := [] } }) ∧
    (¬s.linePort.silence.reached s.partTime → exec .silenceTimerExpiry s = .next s)) ∧
  (∀ s : State, s.pins.resetLow = false →
    (∀ k : Fin 32,
      (s.relayOut[k].timer.reached s.partTime → exec (.relayTimerExpiry k) s = .next
        { s with relayOut := upd s.relayOut k { s.relayOut[k] with
            ready := true, timer := some (s.partTime + BitVec.ofNat 32 (s.tables.part.relayPeriod.toNat * 500)) } }) ∧
      (¬s.relayOut[k].timer.reached s.partTime → exec (.relayTimerExpiry k) s = .next s)) ∧
    (s.notice.roundTimer.reached s.partTime → exec .roundTimerExpiry s = .next
      { s with notice := { s.notice with
          roundReady := true, roundTimer := some (s.partTime + BitVec.ofNat 32 (s.tables.part.roundPeriod.toNat * 5000)) } }) ∧
    (¬s.notice.roundTimer.reached s.partTime → exec .roundTimerExpiry s = .next s))

/-- The line arbiter takes the first ready frame in class order (R11), when its destination is a station, with the
relay frame, the VERDICT and the ROUND built from their records at that moment (R126, R142, R145). Which waiting
WATCH notices and forwarded copies still have a destination is the model's reading (assumption 11). -/
def Obligations.ArbiterTakesInClassOrder : Prop :=
  ∀ (s : State) (own : Byte), s.pins.resetLow = false → s.linePort.tx = none → s.linePort.link = .up →
    s.pins.ownStation = some own →
    let send (t : State) (f : Frame) (restart : Bool) : Host.Outcome State Fault Refusal :=
      .next { t with linePort := { t.linePort with tx := some ⟨f, restart⟩ } }
    let noRelay := ∀ k : Fin 32, s.relayOut[k].ready = false
    let noVerdict := s.notice.hold = .held ∨ ∀ k : Fin 24, s.notice.owed[k] = false
    (∀ a rest, s.linePort.answers = a :: rest → a.frame.hdr.dstStation ≠ 0 →
      exec .arbiterTake s = send { s with linePort := { s.linePort with answers := rest } } a.frame a.restart) ∧
    (s.linePort.answers = [] → ∀ k, FollowsInTurn s.linePort.lastSlot (fun k => s.relayOut[k].ready) k →
      s.tables.heads[k].relayOut ≠ 0 →
      exec .arbiterTake s = send
        { s with
            relayOut := upd s.relayOut k { s.relayOut[k] with seq := s.relayOut[k].seq + 1, pending := [], ready := false }
            linePort := { s.linePort with lastSlot := k } }
        ⟨⟨s.tables.heads[k].relayOut, 0, own, 0⟩, 0x31,
          [s.relayOut[k].seq, s.tables.heads[k].address, (reportedStatus s.heads[k].state s.relayOut[k].broken).code,
            BitVec.ofNat 8 s.relayOut[k].pending.length] ++
            s.relayOut[k].pending.flatMap fun p => [if p.dir = .up then 0 else 1] ++ bytes16 p.speed⟩ false) ∧
    (s.linePort.answers = [] → noRelay → s.notice.hold = .free →
      ∀ k, FollowsInTurn s.linePort.lastSection (fun k => s.notice.owed[k]) k → s.tables.part.interlocking ≠ 0 →
      exec .arbiterTake s = send
        { s with
            notice := { s.notice with owed := upd s.notice.owed k false }
            linePort := { s.linePort with lastSection := k } }
        (let r := s.sections[k]
        ⟨⟨s.tables.part.interlocking, 0, own, 0⟩, 0x51,
          [BitVec.ofNat 8 k.val, if r.state = .clear then 1 else 0, r.state.code] ++ bytes16 (BitVec.ofNat 16 r.count) ++
            bytes16 r.inTally ++ bytes16 r.outTally ++ bytes16 r.absorbed ++
            [(r.cause.map Cause.code).getD 0, (r.causeSource.map fun n => BitVec.ofNat 8 n.val).getD 255,
              (if r.repeated then 1 else 0) + (if r.warning then 2 else 0), (r.restoreKind.map RestoreKind.code).getD 0]⟩) false) ∧
    (s.linePort.answers = [] → noRelay → noVerdict → s.notice.roundReady = true → s.tables.part.interlocking ≠ 0 →
      exec .arbiterTake s = send { s with notice := { s.notice with roundReady := false } }
        ⟨⟨s.tables.part.interlocking, 0, own, 0⟩, 0x52,
          [s.mode.code, 24] ++ (List.finRange 24).map fun k => s.sections[k].state.code⟩ false) ∧
    (s.linePort.answers = [] → noRelay → noVerdict → s.notice.roundReady = false →
      ∀ n rest, s.watch.notices = n :: rest → n.hdr.dstStation ≠ 0 → s.tables.part.maintenance ≠ 0 →
      exec .arbiterTake s = send { s with watch := { s.watch with notices := rest } } n false) ∧
    (s.linePort.answers = [] → noRelay → noVerdict → s.notice.roundReady = false → s.watch.notices = [] →
      (∀ f rest, s.linePort.forward = f :: rest → f.hdr.dstStation ≠ 0 → s.tables.part.recorder ≠ 0 →
        exec .arbiterTake s = send { s with linePort := { s.linePort with forward := rest } } f false) ∧
      (s.linePort.forward = [] → exec .arbiterTake s = .next s))

/-- The arbiter takes nothing while the port sends, the link is DOWN or the part is unaddressed (R9, R10, R11). A
frame with destination station 0 is discarded, its item counts as taken, and the next is taken at once (R6), class
by class: the answer leaves its queue, and the answer to a pending RESTART does what its transmission's end does
(R173); the relay frame empties the pending list (R126); the VERDICT's owed flag is cleared though nothing is sent
(R140); the ROUND is no longer ready (R145); the notice (R159) and the copy leave their lists. Which waiting notices
and copies have that destination is the model's reading (assumption 11). -/
def Obligations.ArbiterDiscardsAndWaits : Prop :=
  ∀ s : State, s.pins.resetLow = false →
    (s.linePort.tx ≠ none ∨ s.linePort.link = .down ∨ s.pins.ownStation = none → exec .arbiterTake s = .next s) ∧
    (s.linePort.tx = none → s.linePort.link = .up → s.pins.ownStation ≠ none →
      let goesOnWith (t : State) : Prop := exec .arbiterTake s = exec .arbiterTake t
      let noRelay := ∀ k : Fin 32, s.relayOut[k].ready = false
      let noVerdict := s.notice.hold = .held ∨ ∀ k : Fin 24, s.notice.owed[k] = false
      (∀ a rest, s.linePort.answers = a :: rest → a.frame.hdr.dstStation = 0 →
        (¬(a.restart = true ∧ s.pendingRestart = true) → goesOnWith { s with linePort := { s.linePort with answers := rest } }) ∧
        (a.restart = true → s.pendingRestart = true → exec .arbiterTake s =
          exec .lineTransmitDone { s with linePort := { s.linePort with answers := rest, tx := some a } })) ∧
      (s.linePort.answers = [] → ∀ k, FollowsInTurn s.linePort.lastSlot (fun k => s.relayOut[k].ready) k →
        s.tables.heads[k].relayOut = 0 → goesOnWith { s with
          relayOut := upd s.relayOut k { s.relayOut[k] with seq := s.relayOut[k].seq + 1, pending := [], ready := false }
          linePort := { s.linePort with lastSlot := k } }) ∧
      (s.linePort.answers = [] → noRelay → s.tables.part.interlocking = 0 →
        (s.notice.hold = .free → ∀ k, FollowsInTurn s.linePort.lastSection (fun k => s.notice.owed[k]) k → goesOnWith { s with
          notice := { s.notice with owed := upd s.notice.owed k false }
          linePort := { s.linePort with lastSection := k } }) ∧
        (noVerdict → s.notice.roundReady = true → goesOnWith { s with notice := { s.notice with roundReady := false } })) ∧
      (s.linePort.answers = [] → noRelay → noVerdict → s.notice.roundReady = false →
        (∀ n rest, s.watch.notices = n :: rest → n.hdr.dstStation = 0 ∨ s.tables.part.maintenance = 0 →
          goesOnWith { s with watch := { s.watch with notices := rest } }) ∧
        (∀ f rest, s.watch.notices = [] → s.linePort.forward = f :: rest →
          f.hdr.dstStation = 0 ∨ s.tables.part.recorder = 0 →
          goesOnWith { s with linePort := { s.linePort with forward := rest } })))

/-- The end of a line transmission (R11). After the answer to a pending RESTART the soft restart takes place
(R173, R182): every block at its hardware-reset values, but for the tables, the mode, the pins, part time and
the field frame in transmission; in RUN, RUN entry is repeated with cause RESTART. Every latch becomes inactive, and
an output's then takes its condition's value (R177). -/
def Obligations.LineTransmissionsEnd : Prop :=
  ∀ s : State, s.pins.resetLow = false →
    (s.linePort.tx = none → exec .lineTransmitDone s = .next s) ∧
    (∀ o, s.linePort.tx = some o → ¬(o.restart = true ∧ s.pendingRestart = true) →
      exec .lineTransmitDone s = .next { s with linePort := { s.linePort with tx := none } }) ∧
    (∀ o, s.linePort.tx = some o → o.restart = true → s.pendingRestart = true →
      ∃ t : State, exec .lineTransmitDone s = .next t ∧
        t = { s with
          pendingRestart := false
          tallies := ⟨0, 0, 0, 0, 0, 0⟩
          fieldPort := { s.fieldPort with orders := [] }
          linePort := ⟨.down, none, [], [], none, 31, 23⟩
          heads := t.heads
          relayOut := t.relayOut
          channels := t.channels
          sections := t.sections
          restoreTimers := Vector.replicate 24 none
          notice := ⟨t.notice.owed, .free,
            some (s.partTime + BitVec.ofNat 32 (s.tables.part.roundPeriod.toNat * 5000)), false⟩
          watch := ⟨Vector.replicate 4 ⟨.off, .field, 0, 0, 0, none⟩, [], []⟩
          lines := t.lines } ∧
        (∀ k : Fin 32,
          t.heads[k] = ⟨if s.mode = .run ∧ s.tables.heads[k].used = true then .awaiting else .off, none, 0, 0, 0, none, none, 0,
            .ok, .ok, 0, ⟨.vacant, none, none, none, 0⟩, none⟩ ∧
          t.relayOut[k] = (if s.mode = .run ∧ s.tables.heads[k].used = true ∧ s.tables.heads[k].relayOut ≠ 0 then
            ⟨0, [], false, true, some (s.partTime + BitVec.ofNat 32 (s.tables.part.relayPeriod.toNat * 500))⟩
            else ⟨0, [], false, false, none⟩)) ∧
        (∀ c : Fin 8, t.channels[c] =
          ⟨if s.mode = .run ∧ s.tables.relays[c].used = true then .awaiting else .off, none, 0, none, .awaiting, none⟩) ∧
        (∀ k : Fin 24,
          t.sections[k] = (if s.mode = .run ∧ s.tables.sections[k].inUse = true then
            ⟨.disturbed, 0, 0, 0, 0, false, some .restart, none, false, false, false, s.partTime, none⟩
            else ⟨.off, 0, 0, 0, 0, false, none, none, false, false, false, 0, none⟩) ∧
          t.notice.owed[k] = (s.mode == .run && s.tables.sections[k].inUse)) ∧
        t.LatchesFollow ∧
        ∀ l : Fin 8, t.lines[l].board = s.lines[l].board ∧ t.lines[l].timer = none ∧
          (s.tables.lines[l].function ≠ .sectionOut → s.tables.lines[l].function ≠ .alarmOut → t.lines[l].latch = false) ∧
          t.lines[l].activation = (if s.tables.lines[l].function = .restoreIn ∧ s.sensed l = true then .spent else .idle))

/-- The field transmitter (R7): it starts the oldest order when it is free and one waits, and ends. -/
def Obligations.FieldTransmitterSendsOrders : Prop :=
  ∀ s : State, s.pins.resetLow = false →
    (∀ f rest, s.fieldPort.tx = none → s.fieldPort.orders = f :: rest →
      exec .fieldOrderTransmit s = .next { s with fieldPort := ⟨rest, some f⟩ }) ∧
    (s.fieldPort.tx ≠ none ∨ s.fieldPort.orders = [] → exec .fieldOrderTransmit s = .next s) ∧
    exec .fieldTransmitDone s = .next { s with fieldPort := { s.fieldPort with tx := none } }

/-! ## Head orders (R17, R151 to R153) -/

/-- The steps of R17 for a head order, the first failing one refusing it, and its queueing when the intercept
has nothing to judge: any code but TEST_START, or CONFIG (R151). Station 0 is no sender's name (assumption 9). -/
def Obligations.HeadOrdersAreJudged : Prop :=
  ∀ (s : State) (hdr : Header) (code : Byte) (params : List Byte), params.length ≤ 63 → s.forPart hdr → hdr.dstNode ≠ 0 →
    let f := orderOperand hdr code params
    let u := s.heard f
    let become (t : State) : Prop := exec (.order hdr code params) s = .next t ∧
      (code = 0x01 → exec (.testStart hdr params) s = .next t)
    let refused (r : Result) : Prop :=
      (s.linePort.answers.length < 8 → become (u.answered hdr 0x00 code ⟨r, [hdr.dstNode]⟩)) ∧
      (8 ≤ s.linePort.answers.length →
        become { u with tallies := { u.tallies with droppedRequest := oneMore u.tallies.droppedRequest } })
    (¬s.mayOrder hdr → refused .notPermitted) ∧
    (s.mayOrder hdr → ¬s.orderRoute hdr → refused .noRoute) ∧
    (s.mayOrder hdr → s.orderRoute hdr → 8 ≤ s.fieldPort.orders.length → refused .fieldBusy) ∧
    (s.mayOrder hdr → s.orderRoute hdr → s.fieldPort.orders.length < 8 → code ≠ 0x01 ∨ s.mode = .config →
      become { u with fieldPort := { s.fieldPort with orders :=
        s.fieldPort.orders ++ [⟨{ hdr with dstStation := 0 }, 0x21, code :: params⟩] } })

/-- TEST_START in RUN past the first three steps of R17: blocked by the lowest addressed GUARD head that bounds
a counting or restoring section (R152), else queued, with the addressed heads that can entering IN_TEST (R37,
R153) and their sections disturbed (R94). -/
def Obligations.TestStartIsIntercepted : Prop :=
  ∀ (s : State) (hdr : Header) (params : List Byte), params.length ≤ 63 → s.forPart hdr → hdr.dstNode ≠ 0 → s.mode = .run →
    s.mayOrder hdr → s.orderRoute hdr → s.fieldPort.orders.length < 8 →
    let u := s.heard (orderOperand hdr 0x01 params)
    let queued : State := { u with fieldPort := { s.fieldPort with orders :=
      s.fieldPort.orders ++ [⟨{ hdr with dstStation := 0 }, 0x21, 0x01 :: params⟩] } }
    let addressed (k : Fin 32) : Prop := s.claims k hdr.dstNode ∨ (hdr.dstNode = 255 ∧ s.tables.heads[k].used = true)
    let blocks (k : Fin 32) : Prop := addressed k ∧ s.tables.heads[k].guarded = true ∧ ∃ x : Fin 24,
      s.bounds (headSource k) x ∧ s.sections[x].state ≠ .off ∧ s.sections[x].state ≠ .disturbed
    let enters (k : Fin 32) : Prop := addressed k ∧ (s.heads[k].state = .awaiting ∨ s.heads[k].state.chained)
    (∀ k, blocks k → (∀ j, j < k → ¬blocks j) →
      (s.linePort.answers.length < 8 → exec (.testStart hdr params) s =
        .next (u.answered hdr 0x00 0x01 ⟨.testBlocked, [hdr.dstNode, BitVec.ofNat 8 k.val]⟩)) ∧
      (8 ≤ s.linePort.answers.length → exec (.testStart hdr params) s =
        .next { u with tallies := { u.tallies with droppedRequest := oneMore u.tallies.droppedRequest } })) ∧
    ((∀ k, ¬blocks k) → ∃ t : State, exec (.testStart hdr params) s = .next t ∧
      t.butTrack = queued.butTrack ∧
      t.channels = s.channels ∧
      (∀ k, enters k → t.heads[k] = { s.heads[k] with
        state := .inTest, expected := none, timer := none, missed := 0,
        recog := ⟨.vacant, none, none, none, s.heads[k].recog.rockBack⟩ } ∧
        t.relayOut[k] = { s.relayOut[k] with ready := s.relayOut[k].ready || (s.tables.heads[k].relayOut != 0 &&
          reportedStatus s.heads[k].state s.relayOut[k].broken != .faulty) }) ∧
      (∀ k, ¬enters k → t.heads[k] = s.heads[k] ∧ t.relayOut[k] = s.relayOut[k]) ∧
      (∀ x, (∀ k, enters k → ¬s.bounds (headSource k) x) → t.sections[x] = s.sections[x]) ∧
      (∀ x k, enters k → s.bounds (headSource k) x → (∀ j, j < k → enters j → ¬s.bounds (headSource j) x) →
        (s.sections[x].state = .off ∨ s.sections[x].state = .disturbed → t.sections[x] = { s.sections[x] with
          repeated := s.sections[x].repeated || s.sections[x].state == .disturbed, warning := t.sections[x].warning }) ∧
        (s.sections[x].state ≠ .off → s.sections[x].state ≠ .disturbed → t.sections[x] = { s.sections[x] with
          state := .disturbed, cause := some .headTest, causeSource := some (headSource k),
          disturbedTime := s.partTime, restoreKind := none, repeated := t.sections[x].repeated,
          warning := t.sections[x].warning })))

/-! ## The watch unit (R156 to R159) -/

/-- One checked frame offered to the four entries: which match, what each firing keeps, announces and turns
off, and that nothing outside the watch unit moves. An unaddressed part's notices carry 0 (assumption 8). -/
def Obligations.MatchingEntriesFire : Prop :=
  ∀ (s : State) (onLine : Bool) (f : Frame),
    let agree (mask a b : Byte) : Prop := ∀ i, i < 8 → mask.getLsbD i = false → a.getLsbD i = b.getLsbD i
    let hit (e : Fin 4) : Prop :=
      let w := s.watch.entries[e]
      w.mode ≠ .off ∧ (w.port = .either ∨ (w.port = .line ∧ onLine = true) ∨ (w.port = .field ∧ onLine = false)) ∧
        agree w.nodeMask f.hdr.srcNode w.node ∧ (w.kind = 0 ∨ w.kind = f.kind) ∧
        ∀ t, w.test = some t → t.offset.val < f.payload.length ∧ agree t.mask (byteAt f.payload t.offset.val) t.value
    let t := s.offer onLine f
    { t with watch := s.watch } = s ∧
    (∀ e, (¬hit e → t.watch.entries[e] = s.watch.entries[e]) ∧
      (hit e → t.watch.entries[e] = { s.watch.entries[e] with
        mode := if s.watch.entries[e].mode = .once then .off else s.watch.entries[e].mode })) ∧
    ∃ hits : List (Fin 4), hits.Pairwise (· < ·) ∧ (∀ e, e ∈ hits ↔ hit e) ∧
      t.watch.captures = s.watch.captures ++
        (hits.map fun e => (⟨e, s.partTime, f.body⟩ : Capture)).take (8 - s.watch.captures.length) ∧
      t.watch.notices = s.watch.notices ++
        (hits.mapIdx fun (i : Nat) (e : Fin 4) => (⟨⟨s.tables.part.maintenance, 0, s.pins.ownStation.getD 0, 0⟩, 0x53,
          [BitVec.ofNat 8 e.val, if s.watch.captures.length + i < 8 then 1 else 0] ++ bytes32 s.partTime ++
            [f.kind, f.hdr.srcNode]⟩ : Frame)).take (8 - s.watch.notices.length)

/-! ## Heads (chapter 2) -/

/-- The status a relaying head reports (R123), and a change of a head's record (R40, R123): the record, the relay
unit's ready flag when the reported status changes, the health event, and the one state event of the change. -/
def Obligations.HeadChangesAreDelivered : Prop :=
  (∀ st : SourceState, st ≠ .off → reportedStatus st true = .faulty) ∧
  reportedStatus .normal false = .normal ∧ reportedStatus .late false = .normal ∧ reportedStatus .awaiting false = .awaiting ∧
  reportedStatus .lost false = .faulty ∧ reportedStatus .faulty false = .faulty ∧ reportedStatus .inTest false = .faulty ∧
  ∀ (s : State) (k : Fin 32) (h : HeadRun),
    let old := s.heads[k]
    let n := headSource k
    let told := s.tables.heads[k].relayOut ≠ 0 ∧ reportedStatus old.state s.relayOut[k].broken ≠ reportedStatus h.state s.relayOut[k].broken
    ∃ v : State, { v with relayOut := s.relayOut } = { s with heads := upd s.heads k h } ∧
      (told → v.relayOut = upd s.relayOut k { s.relayOut[k] with ready := true }) ∧ (¬told → v.relayOut = s.relayOut) ∧
      ∃ w : State, (old.healthA = h.healthA ∧ old.healthB = h.healthB → w = v) ∧
        (old.healthA ≠ h.healthA ∨ old.healthB ≠ h.healthB → w = v.deliver n .healthChanged) ∧
        (old.state = h.state → s.commitHead k h = w) ∧
        ((old.state = .awaiting ∨ old.state = .inTest ∨ old.state = .lost) → h.state = .normal →
          s.commitHead k h = w.deliver n .supervised) ∧
        (old.state = .normal → h.state = .late → s.commitHead k h = w.deliver n .late) ∧
        (old.state = .late → h.state = .normal → s.commitHead k h = w.deliver n .normal) ∧
        ((old.state = .normal ∨ old.state = .late) → h.state = .lost →
          s.commitHead k h = w.deliver n (.lost s.tables.heads[k].lossAction)) ∧
        (old.state.chained → h.state = .faulty → s.commitHead k h = w.deliver n .faulty) ∧
        (old.state = .awaiting ∨ old.state.chained → h.state = .inTest → s.commitHead k h = w.deliver n .inTest)

/-- A LIFE for a head in AWAITING or IN_TEST (R24, R25, R38): it adopts when its test flag is clear, neither
sensor is covered and neither health FAILED; else the health is taken, and a test flag takes AWAITING to IN_TEST.
A reported health is 0 OK, 1 DEGRADED, 2 and 3 FAILED (R4). -/
def Obligations.LifeAdoptsAWaitingHead : Prop :=
  ∀ (s : State) (hdr : Header) (seq : Byte) (ts : Half) (a b st : Byte) (k : Fin 32), s.toSupervisor hdr k →
    (s.heads[k].state = .awaiting ∨ s.heads[k].state = .inTest) →
    let u := s.fieldHeard (lifeOperand hdr seq ts a b st)
    let h := s.heads[k]
    let health (code : BitVec 2) : Health := if code = 0 then .ok else if code = 1 then .degraded else .failed
    let healthA := health (st.extractLsb' 0 2)
    let healthB := health (st.extractLsb' 2 2)
    let clean := st.getLsbD 4 = false ∧ st.getLsbD 5 = false ∧ st.getLsbD 6 = false ∧ healthA ≠ .failed ∧ healthB ≠ .failed
    (clean → exec (.life hdr seq ts a b st) s = .next (u.commitHead k { h with
      state := .normal, expected := some (seq + 1), recvA := a, recvB := b, missed := 0, fault := none,
      anchor := some ⟨ts.zeroExtend 32, s.partTime⟩, strikes := 0, healthA, healthB,
      recog := ⟨.vacant, none, none, none, h.recog.rockBack⟩,
      timer := some (s.partTime + BitVec.ofNat 32 (s.tables.heads[k].reportPeriod.toNat * 500)) })) ∧
    (¬clean → h.state = .inTest ∨ st.getLsbD 4 = false →
      exec (.life hdr seq ts a b st) s = .next (u.commitHead k { h with healthA, healthB })) ∧
    (h.state = .awaiting → st.getLsbD 4 = true →
      exec (.life hdr seq ts a b st) s = .next (u.commitHead k { h with
        healthA, healthB, state := .inTest, expected := none, timer := none, missed := 0,
        recog := ⟨.vacant, none, none, none, h.recog.rockBack⟩ }))

/-- The sequence check of LIFE and WHEEL frames (R26): a repeat only counts, any number but the next or the
last makes the head FAULTY with SEQ_GAP. Discarded frames (R23) change nothing at the supervisor. -/
def Obligations.SequenceBreaksAreFaults : Prop :=
  ∀ (s : State) (hdr : Header) (seq : Byte) (ts : Half) (a b st flags : Byte) (edges : List EdgeOperand) (k : Fin 32),
    s.toSupervisor hdr k → 1 ≤ edges.length → edges.length ≤ 6 →
    let h := s.heads[k]
    let uL := s.fieldHeard (lifeOperand hdr seq ts a b st)
    let uW := s.fieldHeard (wheelOperand hdr seq flags edges)
    (∀ e, h.state.chained → h.expected = some e → seq = e - 1 →
      exec (.life hdr seq ts a b st) s = .next { uL with heads := upd s.heads k { h with repeats := oneMore h.repeats } } ∧
      exec (.wheel hdr seq flags edges) s = .next { uW with heads := upd s.heads k { h with repeats := oneMore h.repeats } }) ∧
    (∀ e, h.state.chained → h.expected = some e → seq ≠ e - 1 → seq ≠ e →
      let broken : HeadRun := { h with state := .faulty, fault := some .seqGap, expected := none, timer := none, recog := ⟨.vacant, none, none, none, h.recog.rockBack⟩ }
      exec (.life hdr seq ts a b st) s = .next (uL.commitHead k broken) ∧
      exec (.wheel hdr seq flags edges) s = .next (uW.commitHead k broken)) ∧
    (h.state = .faulty → exec (.life hdr seq ts a b st) s = .next uL ∧ exec (.wheel hdr seq flags edges) s = .next uW) ∧
    (h.state = .awaiting ∨ h.state = .inTest → exec (.wheel hdr seq flags edges) s = .next uW)

/-- The checks of a LIFE in sequence, in the order of R28: health (2 and 3 FAILED, R4), tallies, clock (R30, with the
anchor moved as R29 and R31 give and held times raised as R49 gives), test flag. The first failing one decides. -/
def Obligations.LifeIsCheckedInOrder : Prop :=
  ∀ (s : State) (hdr : Header) (seq : Byte) (ts : Half) (a b st : Byte) (k : Fin 32) (an : Anchor), s.toSupervisor hdr k →
    s.heads[k].state.chained → s.heads[k].expected = some seq → s.heads[k].anchor = some an →
    let u := s.fieldHeard (lifeOperand hdr seq ts a b st)
    let h := s.heads[k]
    let health (code : BitVec 2) : Health := if code = 0 then .ok else if code = 1 then .degraded else .failed
    let healthA := health (st.extractLsb' 0 2)
    let healthB := health (st.extractLsb' 2 2)
    let base : HeadRun := { h with
      state := .normal, expected := some (seq + 1), missed := 0, healthA, healthB,
      timer := some (s.partTime + BitVec.ofNat 32 (s.tables.heads[k].reportPeriod.toNat * 500)) }
    let faulty (g : HeadRun) (c : FaultCause) : HeadRun := { g with
      state := .faulty, fault := some c, expected := none, timer := none, recog := ⟨.vacant, none, none, none, h.recog.rockBack⟩ }
    let p := (s.partTime - an.part).toNat
    let e := an.ext + (s.partTime - an.part)
    let r := an.deviation s.partTime ts
    let ext := if 1000000 < p then e else e + BitVec.ofInt 32 r
    let fits := r.natAbs ≤ p / 32 + 50
    let moved (strikes : Fin 4) : HeadRun := { base with strikes, anchor := some ⟨ext, s.partTime⟩, recog := h.recog.raise ext }
    let become (g : HeadRun) : Prop := exec (.life hdr seq ts a b st) s = .next (u.commitHead k g)
    let bad := healthA = .failed ∨ healthB = .failed
    let agree := a = h.recvA ∧ b = h.recvB
    (bad → become (faulty base .sensorFailed)) ∧
    (¬bad → ¬agree → become (faulty base .edgeTally)) ∧
    (¬bad → agree → p ≤ 1000000 → ¬fits → 2 ≤ h.strikes.val → become (faulty (moved 3) .clock)) ∧
    (∀ strikes : Fin 4, ¬bad → agree →
      (1000000 < p ∧ strikes = h.strikes) ∨ (p ≤ 1000000 ∧ fits ∧ strikes = 0) ∨
        (p ≤ 1000000 ∧ ¬fits ∧ h.strikes.val < 2 ∧ strikes.val = h.strikes.val + 1) →
      (st.getLsbD 4 = false → become (moved strikes)) ∧
      (st.getLsbD 4 = true → become { moved strikes with
        state := .inTest, expected := none, timer := none, missed := 0, recog := ⟨.vacant, none, none, none, h.recog.rockBack⟩ }))

/-- A WHEEL frame in sequence: every edge record counts, whatever happens to it afterwards (R27); a test flag
takes the head to IN_TEST and a stale anchor to FAULTY with TIME_ANCHOR, each straight from its state; else the head
is NORMAL, that is delivered, and the edges go to the engine in list order (R32, R45). -/
def Obligations.WheelEdgesAreCounted : Prop :=
  ∀ (s : State) (hdr : Header) (seq flags : Byte) (edges : List EdgeOperand) (k : Fin 32), s.toSupervisor hdr k →
    1 ≤ edges.length → edges.length ≤ 6 → s.heads[k].state.chained → s.heads[k].expected = some seq →
    let u := s.fieldHeard (wheelOperand hdr seq flags edges)
    let h := s.heads[k]
    let onA := edges.countP fun e => !e.edge.getLsbD 0
    let base : HeadRun := { h with
      state := .normal, expected := some (seq + 1), missed := 0,
      recvA := h.recvA + BitVec.ofNat 8 onA, recvB := h.recvB + BitVec.ofNat 8 (edges.length - onA),
      timer := some (s.partTime + BitVec.ofNat 32 (s.tables.heads[k].reportPeriod.toNat * 500)) }
    let still : Recog := ⟨.vacant, none, none, none, h.recog.rockBack⟩
    (∃ t : State, exec (.wheel hdr seq flags edges) s = .next t ∧ t.heads[k].recvA = base.recvA ∧ t.heads[k].recvB = base.recvB ∧
      ∀ j, j ≠ k → t.heads[j] = s.heads[j]) ∧
    (flags.getLsbD 0 = true → exec (.wheel hdr seq flags edges) s = .next (u.commitHead k { base with
      state := .inTest, expected := none, timer := none, recog := still })) ∧
    (∀ an, flags.getLsbD 0 = false → h.anchor = some an → 1000000 < (s.partTime - an.part).toNat →
      exec (.wheel hdr seq flags edges) s = .next (u.commitHead k { base with
        state := .faulty, fault := some .timeAnchor, expected := none, timer := none, recog := still })) ∧
    (∀ an, flags.getLsbD 0 = false → h.anchor = some an → (s.partTime - an.part).toNat ≤ 1000000 →
      exec (.wheel hdr seq flags edges) s = .next ((u.commitHead k base).edges k an none edges))

/-- The edges of a frame, one at a time (R45): each gives its wheel-activity notice first (R101). A first edge before
the last edge time (R48), or an edge whose transition fails, makes the head FAULTY at that edge and ends the frame,
with what came before standing (R61). Any other edge leaves the transition's record with its time as last edge
time, and a passage record it forms is delivered before the next edge (R60).
Then a wheel crossing the pair in one frame: four admissible edges in sequence, plausible lead times. The head
returns to NORMAL and that is delivered first, and one passage with its direction (R59) and speed (R58) reaches the
sections and the relay unit. -/
def Obligations.WheelCrossingFormsAPassage : Prop :=
  (∀ (s : State) (k : Fin 32) (an : Anchor) (before : Option (Time × Half)),
    s.edges k an before [] = s ∧
    ∀ (e : EdgeOperand) (rest : List EdgeOperand),
      let h := s.heads[k]
      let t := edgeTime an s.partTime before e.stamp
      let u := s.activity (headSource k)
      let early := before = none ∧ ∃ l, h.recog.lastEdge = some l ∧ 2 ^ 31 ≤ (t - l).toNat
      let effect := h.recog.take k s.tables.heads[k] (if e.edge.getLsbD 0 then .b else .a) (e.edge.getLsbD 1) t
      let result := s.edges k an before (e :: rest)
      let faulty (why : FaultCause) : State := u.commitHead k { h with
        state := .faulty, fault := some why, expected := none, timer := none,
        recog := ⟨.vacant, none, none, none, h.recog.rockBack⟩ }
      let taken (r : Recog) : State := { u with heads := upd u.heads k { h with recog := { r with lastEdge := some t } } }
      (early → result = faulty .edgeOrder) ∧
      (∀ why, ¬early → effect = .fault why → result = faulty why) ∧
      (∀ r, ¬early → effect = .taken r none → result = (taken r).edges k an (some (t, e.stamp)) rest) ∧
      (∀ r p, ¬early → effect = .taken r (some p) → result =
        (((taken r).passage (headSource p.source) p.dir).relayPassage p.source ⟨p.dir, p.speed⟩).edges k an (some (t, e.stamp)) rest)) ∧
  ∀ (s : State) (hdr : Header) (seq flags : Byte) (e₁ e₂ e₃ e₄ : EdgeOperand) (k : Fin 32) (an : Anchor) (fromA : Bool),
    s.toSupervisor hdr k → s.heads[k].state.chained → s.heads[k].expected = some seq → flags.getLsbD 0 = false →
    s.heads[k].anchor = some an → (s.partTime - an.part).toNat ≤ 1000000 → s.heads[k].recog.state = .vacant →
    (∀ l, s.heads[k].recog.lastEdge = some l → (an.place s.partTime e₁.stamp - l).toNat < 2 ^ 31) →
    (e₁.edge.getLsbD 0 = !fromA ∧ e₁.edge.getLsbD 1 = true) → (e₂.edge.getLsbD 0 = fromA ∧ e₂.edge.getLsbD 1 = true) →
    (e₃.edge.getLsbD 0 = !fromA ∧ e₃.edge.getLsbD 1 = false) → (e₄.edge.getLsbD 0 = fromA ∧ e₄.edge.getLsbD 1 = false) →
    s.tables.heads[k].minLead ≤ (e₂.stamp - e₁.stamp).toNat → s.tables.heads[k].minLead ≤ (e₄.stamp - e₃.stamp).toNat →
    let h := s.heads[k]
    let n := headSource k
    let t₄ := an.place s.partTime e₁.stamp + (e₂.stamp - e₁.stamp).zeroExtend 32 + (e₃.stamp - e₂.stamp).zeroExtend 32 +
      (e₄.stamp - e₃.stamp).zeroExtend 32
    let h₁ : HeadRun := { h with
      state := .normal, expected := some (seq + 1), missed := 0, recvA := h.recvA + 2, recvB := h.recvB + 2,
      timer := some (s.partTime + BitVec.ofNat 32 (s.tables.heads[k].reportPeriod.toNat * 500)) }
    let d : Direction := if fromA = s.tables.heads[k].reversed then .down else .up
    let v := (s.fieldHeard (wheelOperand hdr seq flags [e₁, e₂, e₃, e₄])).commitHead k h₁
    let w := (((v.activity n).activity n).activity n).activity n
    let x : State := { w with heads := upd w.heads k { h₁ with recog := ⟨.vacant, none, none, some t₄, h.recog.rockBack⟩ } }
    exec (.wheel hdr seq flags [e₁, e₂, e₃, e₄]) s = .next ((x.passage n d).relayPassage k
      ⟨d, BitVec.ofNat 16 (s.tables.heads[k].spacing.toNat * 180 / (e₄.stamp - e₃.stamp).toNat)⟩)

/-- Supervision timers of heads and channels (R33, R34, R136): missed periods up by one, LATE within the
grace, LOST with the loss action above it, the timer restarted; a timer not running or not yet due does nothing
(assumption 3). -/
def Obligations.SilenceMakesSourcesLateThenLost : Prop :=
  ∀ s : State, s.pins.resetLow = false →
    (∀ k : Fin 32,
      let h := s.heads[k]
      let missed : Fin 5 := Fin.ofNat 5 (min 4 (h.missed.val + 1))
      let g (st : SourceState) : HeadRun := { h with
        state := st, missed, timer := some (s.partTime + BitVec.ofNat 32 (s.tables.heads[k].reportPeriod.toNat * 500)) }
      (h.state.chained → h.timer.reached s.partTime →
        (h.state ≠ .lost → missed.val ≤ s.tables.heads[k].grace.val →
          exec (.supervisionTimerExpiry k) s = .next (s.commitHead k (g .late))) ∧
        (h.state = .lost ∨ s.tables.heads[k].grace.val < missed.val →
          exec (.supervisionTimerExpiry k) s = .next (s.commitHead k (g .lost)))) ∧
      (¬(h.state.chained ∧ h.timer.reached s.partTime) → exec (.supervisionTimerExpiry k) s = .next s)) ∧
    (∀ c : Fin 8,
      let r := s.channels[c]
      let n := channelSource c
      let missed : Fin 5 := Fin.ofNat 5 (min 4 (r.missed.val + 1))
      let g (st : SourceState) : State := { s with channels := upd s.channels c { r with
        state := st, missed, timer := some (s.partTime + BitVec.ofNat 32 (s.tables.relays[c].period.toNat * 500)) } }
      (r.timer.reached s.partTime →
        (r.state = .normal → missed.val ≤ s.tables.relays[c].grace.val →
          exec (.channelSupervisionExpiry c) s = .next ((g .late).deliver n .late)) ∧
        (r.state = .late → missed.val ≤ s.tables.relays[c].grace.val →
          exec (.channelSupervisionExpiry c) s = .next (g .late)) ∧
        (r.state = .normal ∨ r.state = .late → s.tables.relays[c].grace.val < missed.val →
          exec (.channelSupervisionExpiry c) s = .next ((g .lost).deliver n (.lost s.tables.relays[c].lossAction))) ∧
        (r.state = .lost → exec (.channelSupervisionExpiry c) s = .next (g .lost))) ∧
      (¬(r.state.chained ∧ r.timer.reached s.partTime) → exec (.channelSupervisionExpiry c) s = .next s))

/-! ## Wheel recognition (chapter 3) -/

/-- The placement of the first edge of a frame (R46): the point at which the head clock reads the stamp that
lies nearest to E, at most 32,768 before it or 32,767 after it. The placement of every later edge (R47): forward
from the edge before it by the difference of the stamps, equal stamps at the same time; the anchor plays no part.
The raising of held times when the anchor moves (R49): one more than 16,777,215 ticks before the anchor's new
extended head time, modulo 2^32 and read as signed, becomes that time less 16,777,215; every other stays. -/
def Obligations.EdgesArePlaced : Prop :=
  (∀ (a : Anchor) (now : Time) (ts : Half),
    let e := a.ext + (now - a.part)
    (a.place now ts).truncate 16 = ts ∧
    (∃ r : Int, -32768 ≤ r ∧ r ≤ 32767 ∧ a.place now ts = e + BitVec.ofInt 32 r ∧ a.deviation now ts = r) ∧
    ∀ r : Int, -32768 ≤ r → r ≤ 32767 → (e + BitVec.ofInt 32 r).truncate 16 = ts → a.place now ts = e + BitVec.ofInt 32 r) ∧
  (∀ (a : Anchor) (now before : Time) (ts₀ ts : Half),
    let t := edgeTime a now (some (before, ts₀)) ts
    (t - before).toNat = (ts.toNat + 65536 - ts₀.toNat) % 65536 ∧ (ts = ts₀ → t = before) ∧
      ∀ (b : Anchor) (now' : Time), edgeTime b now' (some (before, ts₀)) ts = t) ∧
  (∀ (r : Recog) (ext : Time),
    (∃ up : Time → Time, r.raise ext =
        { r with onNote := r.onNote.map up, offNote := r.offNote.map up, lastEdge := r.lastEdge.map up } ∧
      ∀ held : Time,
        (16777215 < (ext - held).toNat → (ext - held).toNat < 2 ^ 31 → up held = ext - 16777215) ∧
        ((ext - held).toNat ≤ 16777215 ∨ 2 ^ 31 ≤ (ext - held).toNat → up held = held)))

/-- Which edges each state admits (R50), and the transition each admitted edge takes when it passes its
plausibility check (R51 to R54), with the rock-back tally of R55 and the passage record of R60. -/
def Obligations.EdgesMoveTheWheel : Prop :=
  ∀ (r : Recog) (k : Fin 32) (c : HeadRec) (x : Sensor) (on : Bool) (t : Time),
    let coversA := r.state = .aFromA ∨ r.state = .bothFromA ∨ r.state = .bothFromB ∨ r.state = .aFromB
    let coversB := r.state = .bFromB ∨ r.state = .bothFromA ∨ r.state = .bothFromB ∨ r.state = .bFromA
    let covered := (x = .a ∧ coversA) ∨ (x = .b ∧ coversB)
    ((covered ↔ on = true) → r.take k c x on t = .fault .edgeOrder) ∧
    ((covered ↔ on = false) → r.take k c x on t ≠ .fault .edgeOrder) ∧
    ∀ fromA : Bool,
      let entry : Sensor := if fromA then .a else .b
      let exit : Sensor := if fromA then .b else .a
      let onEntry : RecogState := if fromA then .aFromA else .bFromB
      let onBoth : RecogState := if fromA then .bothFromA else .bothFromB
      let onExit : RecogState := if fromA then .bFromA else .aFromB
      let lead (m : Time) := min (t - m).toNat 16777215
      (r.state = .vacant → r.take k c entry true t = .taken { r with state := onEntry, onNote := some t, offNote := none } none) ∧
      (∀ m, r.state = onEntry → r.onNote = some m →
        (lead m < c.minLead → r.take k c exit true t = .fault .tooFast) ∧
        (c.minLead ≤ lead m → r.take k c exit true t = .taken { r with state := onBoth } none)) ∧
      (r.state = onEntry → r.take k c entry false t =
        .taken { r with state := .vacant, onNote := none, rockBack := oneMore r.rockBack } none) ∧
      (r.state = onBoth →
        r.take k c entry false t = .taken { r with state := onExit, onNote := none, offNote := some t } none ∧
        r.take k c exit false t = .taken { r with state := onEntry, rockBack := oneMore r.rockBack } none) ∧
      (∀ m, r.state = onExit → r.offNote = some m →
        (lead m < c.minLead → r.take k c exit false t = .fault .tooFast) ∧
        (c.minLead ≤ lead m → r.take k c exit false t = .taken { r with state := .vacant, offNote := none }
          (some ⟨k, if fromA = c.reversed then .down else .up, c.speed (lead m), t⟩))) ∧
      (r.state = onExit → r.take k c entry true t = .taken { r with state := onBoth, onNote := some t, offNote := none } none)

/-- The plausibility limit (R57): the smallest whole number not less than spacing × 180 / speed limit, from 36
to 2,700 over the ranges of the HEAD record, so that a lead time of 0 never passes. The speed of a passage (R58):
the largest whole number not above spacing × 180 / Δout, never above the speed limit for a Δout that passed the
plausibility check, and 0 for a held Δout. -/
def Obligations.LimitAndSpeedAreRounded : Prop :=
  (∀ c : HeadRec, 80 ≤ c.spacing.toNat → c.spacing.toNat ≤ 300 → 20 ≤ c.speedLimit.toNat → c.speedLimit.toNat ≤ 400 →
    c.spacing.toNat * 180 ≤ c.minLead * c.speedLimit.toNat ∧
    (∀ n, c.spacing.toNat * 180 ≤ n * c.speedLimit.toNat → c.minLead ≤ n) ∧
    36 ≤ c.minLead ∧ c.minLead ≤ 2700) ∧
  (∀ (c : HeadRec) (lead : Nat), 80 ≤ c.spacing.toNat → c.spacing.toNat ≤ 300 → 20 ≤ c.speedLimit.toNat →
    c.speedLimit.toNat ≤ 400 → c.minLead ≤ lead → lead ≤ 16777215 →
    (c.speed lead).toNat * lead ≤ c.spacing.toNat * 180 ∧
    (∀ n, n * lead ≤ c.spacing.toNat * 180 → n ≤ (c.speed lead).toNat) ∧
    (c.speed lead).toNat ≤ c.speedLimit.toNat ∧ (c.speed lead).toNat ≤ 400 ∧ (lead = 16777215 → c.speed lead = 0))

/-! ## Sections (chapter 5) -/

/-- Count sources 0 to 31 are the head slots and 32 to 39 the relay channels (R64). A passage of a source (R67), a
wheel-activity notice (R101) and a source event (R68, R93) each reach every section the source bounds once, and each
section judges it against its own record; a passage counts in when its direction is the entry's sense, out otherwise.
No other section changes, and nothing but sections, restore timers, owed flags and latches. Last, what replacing one
record of a table says, in which many statements are made. -/
def Obligations.PassagesReachEachBoundedSection : Prop :=
  (∀ (s : State) (k : Fin 32) (c : Fin 8),
    (headSource k).val = k.val ∧ s.sourceState (headSource k) = s.heads[k].state ∧
    (channelSource c).val = 32 + c.val ∧ s.sourceState (channelSource c) = s.channels[c].state) ∧
  (∀ (s : State) (n : Fin 40) (d : Direction) (ev : SourceEvent), ((s.tables.entriesOfSource n).map (·.1)).Nodup →
    let alike (k : Fin 24) (t u : State) : Prop :=
      t.sections[k] = u.sections[k] ∧ t.notice.owed[k] = u.notice.owed[k] ∧ t.restoreTimers[k] = u.restoreTimers[k]
    (∀ e : Fin 96, ∀ k : Fin 24, s.tables.boundaries[e].sec = some k → s.tables.boundaries[e].source = n →
      let inward := decide ((s.tables.boundaries[e].sense = .intoOnUp ∧ d = .up) ∨
        (s.tables.boundaries[e].sense = .intoOnDown ∧ d = .down))
      alike k (s.passage n d) (s.passageAt n k inward) ∧ alike k (s.activity n) (s.activityAt n k) ∧
        alike k (s.deliver n ev) (s.sourceEventAt n ev k)) ∧
    (∀ k : Fin 24, ¬s.bounds n k →
      alike k (s.passage n d) s ∧ alike k (s.activity n) s ∧ alike k (s.deliver n ev) s) ∧
    (s.passage n d).butSections = s.butSections ∧ (s.activity n).butSections = s.butSections ∧
      (s.deliver n ev).butSections = s.butSections) ∧
  ∀ (α : Type) (m : Nat) (i : Fin m) (v : Vector α m) (x : α) (f : Fin m → α),
    (upd v i x)[i] = x ∧ (∀ j, j ≠ i → (upd v i x)[j] = v[j]) ∧ (tab f)[i] = f i

/-- A passage counted in (R85): above the ceiling COUNT_OVER, else count and in-tally up by one and the state
moved; the section is owed (R103), nothing but it and the output latches changes. -/
def Obligations.PassagesAreCountedIn : Prop :=
  ∀ (s : State) (n : Fin 40) (k : Fin 24),
    let r := s.sections[k]
    let t := s.passageAt n k true
    r.state = .sweep ∨ r.state = .occupied ∨ r.state = .settling ∨ r.state = .clear →
    (s.tables.sections[k].ceiling.toNat < r.count + 1 → t.sections = upd s.sections k { r with
      state := .disturbed, cause := some .countOver, causeSource := some n, disturbedTime := s.partTime,
      restoreKind := none, repeated := false }) ∧
    (r.count + 1 ≤ s.tables.sections[k].ceiling.toNat → t.sections = upd s.sections k { r with
      count := r.count + 1, inTally := oneMore r.inTally, swept := r.swept || r.state == .sweep,
      state := if r.state = .sweep then .sweep else .occupied }) ∧
    t.notice.owed = upd s.notice.owed k true ∧ t.restoreTimers = s.restoreTimers ∧ t.butSections = s.butSections

/-- A passage counted out of a count above 0 (R86): count down and out-tally up by one; at 0 the section becomes
CLEAR when every boundary source is NORMAL or LATE at that moment, else SETTLING, and a restore in progress ends
(R87). A passage out at count 0 (R88): absorbed in SWEEP, which owes nothing (R103); elsewhere COUNT_UNDER. -/
def Obligations.PassagesAreCountedOut : Prop :=
  (∀ (s : State) (n : Fin 40) (k : Fin 24),
    let r := s.sections[k]
    let t := s.passageAt n k false
    let proven := ∀ m, s.bounds m k → s.sourceState m = .normal ∨ s.sourceState m = .late
    r.state = .sweep ∨ r.state = .occupied → 1 ≤ r.count →
    (2 ≤ r.count → t.sections = upd s.sections k { r with count := r.count - 1, outTally := oneMore r.outTally }) ∧
    (r.count = 1 → proven → t.sections = upd s.sections k { r with
      count := 0, outTally := oneMore r.outTally, state := .clear, restoreKind := none }) ∧
    (r.count = 1 → ¬proven → t.sections = upd s.sections k { r with
      count := 0, outTally := oneMore r.outTally, state := .settling, restoreKind := none }) ∧
    t.notice.owed = upd s.notice.owed k true ∧ t.restoreTimers = s.restoreTimers ∧ t.butSections = s.butSections) ∧
  (∀ (s : State) (n : Fin 40) (k : Fin 24),
    let r := s.sections[k]
    let t := s.passageAt n k false
    r.count = 0 →
    (r.state = .sweep → t = { s with sections := upd s.sections k { r with absorbed := oneMore r.absorbed } }) ∧
    (r.state = .occupied ∨ r.state = .settling ∨ r.state = .clear →
      t.sections = upd s.sections k { r with
        state := .disturbed, cause := some .countUnder, causeSource := some n, disturbedTime := s.partTime,
        restoreKind := none, repeated := false } ∧
      t.notice.owed = upd s.notice.owed k true ∧ t.restoreTimers = s.restoreTimers ∧ t.butSections = s.butSections))

/-- Wheel activity, and a passage, at a section that does not count (R84, R101): the flag in DISTURBED, the end
of a direct restore in RESTORE_WAIT, nothing elsewhere. -/
def Obligations.ActivityIsMarked : Prop :=
  ∀ (s : State) (n : Fin 40) (k : Fin 24) (inward : Bool),
    let r := s.sections[k]
    let t := s.activityAt n k
    (r.state = .off ∨ r.state = .disturbed ∨ r.state = .restoreWait → s.passageAt n k inward = t) ∧
    (r.state = .disturbed → t = { s with sections := upd s.sections k { r with activity := true } }) ∧
    (r.state = .restoreWait → r.restoreKind = some .direct →
      t.sections = upd s.sections k { r with
        state := .disturbed, cause := some .restoreAbandoned, causeSource := some n, disturbedTime := s.partTime,
        restoreKind := none, repeated := false, activity := true } ∧
      t.notice.owed = upd s.notice.owed k true ∧ t.restoreTimers = upd s.restoreTimers k none ∧
      t.butSections = s.butSections) ∧
    (r.state = .restoreWait → r.restoreKind ≠ some .direct → t = s) ∧
    (r.state = .off ∨ r.state = .sweep ∨ r.state = .occupied ∨ r.state = .settling ∨ r.state = .clear → t = s)

/-- What each source event does to a section (R83, R94 to R99), with the restore unit's judgement of a section
in RESTORE_WAIT (R112) and the warning flag judged afresh afterwards (R100); and that a section whose state,
count, cause, repeat or warning changed is owed (R103), one left unchanged in them is owed as before. -/
def Obligations.SourceEventsActOnSections : Prop :=
  ∀ (s : State) (n : Fin 40) (k : Fin 24) (e : SourceEvent),
    let r := s.sections[k]
    let t := s.sourceEventAt n e k
    let isHead := n.val < 32
    let cause : Option Cause :=
      match e with
      | .faulty => some (if isHead then .headFault else .relayFault)
      | .inTest => some .headTest
      | .lost .disturb => some (if isHead then .headLost else .relayLost)
      | .returned => some .relayFault
      | .readmitted => if r.state = .restoreWait ∨ r.state = .disturbed then none else some .readmit
      | .supervised | .late | .normal | .lost .hold | .healthChanged => none
    let proven := ∀ m, s.bounds m k → s.sourceState m = .normal ∨ s.sourceState m = .late
    let allNormal := ∀ m, s.bounds m k → s.sourceState m = .normal
    let becomes (g : SecRun) : Prop := t.sections = upd s.sections k { g with warning := t.sections[k].warning }
    (r.state = .off → becomes r) ∧
    (∀ c, cause = some c → r.state = .disturbed → becomes { r with repeated := true }) ∧
    (∀ c, cause = some c → r.state ≠ .off → r.state ≠ .disturbed → becomes { r with
      state := .disturbed, cause := some c, causeSource := some n, disturbedTime := s.partTime,
      restoreKind := none, repeated := false }) ∧
    (e = .lost .hold → r.state = .clear → becomes { r with state := .settling }) ∧
    (e = .lost .hold → r.state ≠ .clear → becomes r) ∧
    (e = .supervised → r.state = .settling → proven → becomes { r with state := .clear }) ∧
    (e = .supervised → r.state = .settling → ¬proven → becomes r) ∧
    (e = .supervised ∨ e = .normal → r.state = .restoreWait → allNormal →
      (r.restoreKind = some .sweep → becomes { r with state := .sweep, count := 0, swept := false }) ∧
      (r.restoreKind = some .direct → becomes { r with state := .clear, count := 0, restoreKind := none })) ∧
    (e = .supervised ∨ e = .normal → r.state = .restoreWait → ¬allNormal → becomes r) ∧
    (e = .supervised → r.state ≠ .settling → r.state ≠ .restoreWait → becomes r) ∧
    (e = .normal → r.state ≠ .restoreWait → becomes r) ∧
    (e = .readmitted → r.state = .restoreWait ∨ r.state = .disturbed → becomes r) ∧
    (e = .late ∨ e = .healthChanged → becomes r) ∧
    (t.sections[k].warning = true ↔ t.sections[k].state ≠ .off ∧ ∃ m, s.bounds m k ∧ s.troubles m) ∧
    t.butSections = s.butSections ∧
    (t.sections[k].state ≠ r.state ∨ t.sections[k].count ≠ r.count ∨ t.sections[k].cause ≠ r.cause ∨
      t.sections[k].repeated ≠ r.repeated ∨ t.sections[k].warning ≠ r.warning → t.notice.owed = upd s.notice.owed k true) ∧
    (t.sections[k].state = r.state → t.sections[k].count = r.count → t.sections[k].cause = r.cause →
      t.sections[k].repeated = r.repeated → t.sections[k].warning = r.warning → t.notice.owed = s.notice.owed)

/-! ## Restoration (chapter 6) -/

/-- The refusal checks of a restore order in the order of R107, each with its result, and that a refusal
changes no state of the part but the answer it makes. -/
def Obligations.RestoresAreRefusedInOrder : Prop :=
  ∀ (s : State) (hdr : Header) (tag : Byte) (p : Byte) (kind : RestoreKind), s.toManagement hdr → s.fromInterlocking hdr →
    let refused (r : Result) : Prop := s.answersOnly kind.request hdr tag [p] ⟨r, []⟩
    (s.mode = .config → refused .wrongMode) ∧
    (s.mode = .run → (∀ k : Fin 24, p.toNat = k.val → s.tables.sections[k].inUse = false) → refused .range) ∧
    (∀ k : Fin 24, s.mode = .run → p.toNat = k.val → s.tables.sections[k].inUse = true →
      let r := s.sections[k]
      let soon := (s.partTime - r.disturbedTime).toNat < 100000
      (s.inhibits k → refused .inhibited) ∧
      (¬s.inhibits k → r.state = .restoreWait ∨ r.state = .sweep → refused .busy) ∧
      (¬s.inhibits k → r.state = .off ∨ r.state = .occupied ∨ r.state = .settling ∨ r.state = .clear → refused .wrongState) ∧
      (¬s.inhibits k → r.state = .disturbed → soon → refused .tooSoon) ∧
      (¬s.inhibits k → r.state = .disturbed → ¬soon → kind = .direct → ¬s.eligible k → refused .notEligible))

/-- An accepted restore (R110 to R112), by order or at a local line (R117): the record cleared, every broken boundary
source readmitted (R39, R127, R136), and the section in RESTORE_WAIT with its timer, or at once SWEEP or CLEAR when
every boundary source is NORMAL; and the restore orders answered OK with it. -/
def Obligations.RestoresAreAccepted : Prop :=
  (∀ (s : State) (hdr : Header) (tag : Byte) (kind : RestoreKind) (k : Fin 24), s.toManagement hdr → s.fromInterlocking hdr →
    s.restorable kind k →
    let u := s.heard (requestOperand hdr kind.request tag [BitVec.ofNat 8 k.val])
    u.restorable kind k ∧ exec (kind.request.row hdr tag [BitVec.ofNat 8 k.val]) s =
      .next ((u.acceptRestore kind k).answered hdr kind.request.byte tag ⟨.ok, []⟩)) ∧
  ∀ (s : State) (kind : RestoreKind) (k : Fin 24), s.restorable kind k →
    let t := s.acceptRestore kind k
    let allNormal := ∀ n, s.bounds n k → s.sourceState n = .normal
    let broken (n : Fin 40) : Prop := s.bounds n k ∧ (s.sourceState n = .faulty ∨ s.sourceState n = .lost)
    let cleared : SecRun := { s.sections[k] with
      count := 0, inTally := 0, outTally := 0, absorbed := 0, swept := false, repeated := false, activity := false,
      cause := none, causeSource := none }
    t.butTrack = s.butTrack ∧
    (allNormal → kind = .sweep → t.sections = upd s.sections k { cleared with state := .sweep, restoreKind := some .sweep }) ∧
    (allNormal → kind = .direct → t.sections = upd s.sections k { cleared with state := .clear, restoreKind := none }) ∧
    (allNormal → t.restoreTimers = upd s.restoreTimers k none) ∧
    (¬allNormal → t.sections[k] = { cleared with
      state := .restoreWait, restoreKind := some kind, warning := t.sections[k].warning } ∧
      t.restoreTimers[k] = some (s.partTime + BitVec.ofNat 32 (s.tables.sections[k].waitLimit.toNat * 50000))) ∧
    t.notice.owed[k] = true ∧
    (∀ j, broken (headSource j) → t.heads[j] = { s.heads[j] with
      state := .awaiting, fault := none, expected := none, anchor := none, recvA := 0, recvB := 0, missed := 0,
      strikes := 0, timer := none, recog := ⟨.vacant, none, none, none, s.heads[j].recog.rockBack⟩ } ∧
      t.relayOut[j] = { s.relayOut[j] with
        seq := 0, pending := [], broken := false
        ready := s.relayOut[j].ready || s.tables.heads[j].relayOut != 0 }) ∧
    (∀ j, ¬broken (headSource j) → t.heads[j] = s.heads[j] ∧ t.relayOut[j] = s.relayOut[j]) ∧
    (∀ c, broken (channelSource c) → t.channels[c] = { s.channels[c] with
      state := .awaiting, fault := none, expected := none, missed := 0, timer := none }) ∧
    (∀ c, ¬broken (channelSource c) → t.channels[c] = s.channels[c]) ∧
    (∀ x, x ≠ k → (∀ n, broken n → ¬s.bounds n x) → t.sections[x] = s.sections[x]) ∧
    (∀ x n, x ≠ k → broken n → s.bounds n x →
      (s.sections[x].state = .sweep ∨ s.sections[x].state = .occupied ∨ s.sections[x].state = .settling ∨
          s.sections[x].state = .clear →
        t.sections[x].state = .disturbed ∧ t.sections[x].cause = some .readmit ∧ t.sections[x].count = s.sections[x].count) ∧
      (s.sections[x].state = .off ∨ s.sections[x].state = .disturbed ∨ s.sections[x].state = .restoreWait →
        t.sections[x] = { s.sections[x] with warning := t.sections[x].warning }))

/-- The ends of a restore: RESTORE_CANCEL, judged and taken (R116), and the expiry of a restore timer (R113), due
as the model chose (assumption 3). -/
def Obligations.RestoresAreCancelledOrTimeOut : Prop :=
  (∀ (s : State) (hdr : Header) (tag : Byte) (p : Byte), s.toManagement hdr → s.fromInterlocking hdr →
    let refused (r : Result) : Prop := s.answersOnly .restoreCancel hdr tag [p] ⟨r, []⟩
    (s.mode = .config → refused .wrongMode) ∧
    (s.mode = .run → (∀ k : Fin 24, p.toNat = k.val → s.tables.sections[k].inUse = false) → refused .range) ∧
    (∀ k : Fin 24, s.mode = .run → p.toNat = k.val → s.tables.sections[k].inUse = true →
      (s.sections[k].state ≠ .restoreWait → s.sections[k].state ≠ .sweep → refused .wrongState) ∧
      (s.sections[k].state = .restoreWait ∨ s.sections[k].state = .sweep →
        ∃ t : State, exec (.restoreCancel hdr tag [p]) s = .next (t.answered hdr 0x12 tag ⟨.ok, []⟩) ∧
          t.butSections = (s.heard (requestOperand hdr .restoreCancel tag [p])).butSections ∧
          t.sections = upd s.sections k { s.sections[k] with
            state := .disturbed, cause := some .cancelled, causeSource := none, disturbedTime := s.partTime,
            restoreKind := none, repeated := false } ∧
          t.notice.owed = upd s.notice.owed k true ∧
          t.restoreTimers = (if s.sections[k].state = .restoreWait then upd s.restoreTimers k none else s.restoreTimers)))) ∧
  (∀ (s : State) (k : Fin 24), s.pins.resetLow = false →
    (s.sections[k].state = .restoreWait → s.restoreTimers[k].reached s.partTime →
      ∃ t : State, exec (.restoreTimerExpiry k) s = .next t ∧ t.butSections = s.butSections ∧
        t.sections = upd s.sections k { s.sections[k] with
          state := .disturbed, cause := some .restoreTimeout, causeSource := none, disturbedTime := s.partTime,
          restoreKind := none, repeated := false } ∧
        t.notice.owed = upd s.notice.owed k true ∧ t.restoreTimers = upd s.restoreTimers k none) ∧
    (¬(s.sections[k].state = .restoreWait ∧ s.restoreTimers[k].reached s.partTime) →
      exec (.restoreTimerExpiry k) s = .next s))

/-! ## Neighbour relay (chapter 7) -/

/-- A passage at a relaying head (R124): it joins the pending list and makes a frame ready; with 4 waiting, or
the broken flag set, it is dropped and the flag set, which makes a frame ready when the reported status changes by it (R123; a head that is
OFF, which forms no passage, counts as reporting FAULTY, assumption 10). -/
def Obligations.PassagesJoinThePendingList : Prop :=
  ∀ (s : State) (k : Fin 32) (p : Passage),
    let o := s.relayOut[k]
    (s.tables.heads[k].relayOut = 0 → s.relayPassage k p = s) ∧
    (s.tables.heads[k].relayOut ≠ 0 → o.broken = false → o.pending.length < 4 →
      s.relayPassage k p = { s with relayOut := upd s.relayOut k { o with pending := o.pending ++ [p], ready := true } }) ∧
    (s.tables.heads[k].relayOut ≠ 0 → o.broken = true ∨ 4 ≤ o.pending.length →
      s.relayPassage k p = { s with relayOut := upd s.relayOut k { o with
        broken := true
        ready := o.ready || (!o.broken && (s.heads[k].state == .normal || s.heads[k].state == .late || s.heads[k].state == .awaiting)) } })

/-- A RELAY frame for the part (R131 to R135): counted misrouted without a channel, else taken by the channel's
state; the change is delivered (R137) and then the passages applied, when it adopts or is accepted as NORMAL. -/
def Obligations.RelayFramesActOnTheirChannel : Prop :=
  ∀ (s : State) (hdr : Header) (seq origin status : Byte) (ps : List PassageOperand), ps.length ≤ 4 → s.forPart hdr →
    hdr.dstNode = 0 →
    let u := s.heard (relayOperand hdr seq origin status ps)
    let row := exec (.relay hdr seq origin status ps) s
    let matches' (c : Fin 8) : Prop :=
      s.tables.relays[c].used = true ∧ s.tables.relays[c].station = hdr.srcStation ∧ s.tables.relays[c].headAddress = origin
    ((∀ c, ¬matches' c) →
      row = .next { u with tallies := { u.tallies with misrouted := oneMore u.tallies.misrouted } }) ∧
    (s.mode = .config → (∃ c, matches' c) → row = .next u) ∧
    ∀ c, s.mode = .run → matches' c → (∀ d, d < c → ¬matches' d) →
      let r := s.channels[c]
      let n := channelSource c
      let put (g : Channel) : State := { u with channels := upd u.channels c g }
      let timer := some (s.partTime + BitVec.ofNat 32 (s.tables.relays[c].period.toNat * 500))
      let normal : Channel := { r with state := .normal, expected := some (seq + 1), missed := 0, lastOrigin := .normal, timer }
      let apply (t : State) : State := ps.foldl (fun t p => t.passage n (if p.direction = 0 then .up else .down)) t
      (r.state = .off ∨ r.state = .faulty → row = .next u) ∧
      (r.state = .awaiting → status = 0 → row = .next (apply ((put normal).deliver n .supervised))) ∧
      (r.state = .awaiting → status = 1 → row = .next (put { r with lastOrigin := .awaiting })) ∧
      (r.state = .awaiting → 2 ≤ status.toNat → row = .next (put { r with lastOrigin := .faulty })) ∧
      ∀ e, r.state.chained → r.expected = some e →
        (seq = e → status = 0 →
          (r.state = .normal → row = .next (apply (put normal))) ∧
          (r.state = .late → row = .next (apply ((put normal).deliver n .normal))) ∧
          (r.state = .lost → row = .next (apply ((put normal).deliver n .supervised)))) ∧
        (seq = e → status = 1 → row = .next ((put { r with
          state := .awaiting, fault := none, expected := none, missed := 0, lastOrigin := .awaiting, timer := none }).deliver n .returned)) ∧
        (seq = e → 2 ≤ status.toNat → row = .next ((put { r with
          state := .faulty, fault := some .remoteFault, expected := none, missed := 0, lastOrigin := .faulty,
          timer := none }).deliver n .faulty)) ∧
        (seq = e - 1 → row = .next u) ∧
        (seq ≠ e → seq ≠ e - 1 → row = .next ((put { r with
          state := .faulty, fault := some .seqGap, expected := none, timer := none }).deliver n .faulty))

/-! ## Requests (chapter 10) -/

/-- The general steps of R163: answer space, pending restart, code, length and permission, in order. -/
def Obligations.RequestsAreJudgedInOrder : Prop :=
  ∀ (s : State) (hdr : Header), s.forPart hdr → hdr.dstNode = 0 →
    (∀ (c : RequestCode) (tag : Byte) (params : List Byte), params.length ≤ 62 →
      (8 ≤ s.linePort.answers.length ∨ s.pendingRestart = true →
        let u := s.heard (requestOperand hdr c tag params)
        exec (c.row hdr tag params) s =
          .next { u with tallies := { u.tallies with droppedRequest := oneMore u.tallies.droppedRequest } }) ∧
      (s.linePort.answers.length < 8 → s.pendingRestart = false → ¬c.lengthIs (params.length + 2) →
        s.answersOnly c hdr tag params ⟨.badLength, []⟩) ∧
      (s.linePort.answers.length < 8 → s.pendingRestart = false → c.lengthIs (params.length + 2) → ¬s.allowed c hdr →
        s.answersOnly c hdr tag params ⟨.notPermitted, []⟩)) ∧
    (∀ (run : List RxChar) (code tag : Byte) (params : List Byte), judgeRun run = .checked ⟨hdr, 0x41, code :: tag :: params⟩ →
      (∀ c : RequestCode, c.byte ≠ code) → s.linePort.answers.length < 8 → s.pendingRestart = false →
      exec (.lineFrameReceived run) s =
        .next ((s.heard ⟨hdr, 0x41, code :: tag :: params⟩).answered hdr code tag ⟨.unknown, []⟩))

/-- MODE to RUN in CONFIG (R71, R165): refused with the offence validation finds, or RUN entry at every block
(R22, R80, R122, R130, R140, R148, R179). -/
def Obligations.RunIsEntered : Prop :=
  ∀ (s : State) (hdr : Header) (tag : Byte), s.toManagement hdr → s.fromMaintenance hdr → s.mode = .config →
    let u := s.heard (requestOperand hdr .mode tag [1])
    (∀ o, s.tables.validate s.pins.ownStation = some o →
      s.answersOnly .mode hdr tag [1] ⟨.validation, [o.check, o.table, BitVec.ofNat 8 o.index]⟩) ∧
    (s.tables.validate s.pins.ownStation = none →
      ∃ t : State, exec (.mode hdr tag [1]) s = .next (t.answered hdr 0x01 tag ⟨.ok, []⟩) ∧
        t = { u with
          mode := .run
          heads := t.heads
          relayOut := t.relayOut
          channels := t.channels
          sections := t.sections
          notice := { s.notice with owed := t.notice.owed, hold := .free }
          lines := t.lines } ∧
        (∀ k : Fin 32,
          t.heads[k] = (if s.tables.heads[k].used = true then { s.heads[k] with
            state := .awaiting, fault := none, expected := none, anchor := none, recvA := 0, recvB := 0, missed := 0,
            strikes := 0, timer := none, recog := ⟨.vacant, none, none, none, s.heads[k].recog.rockBack⟩ } else s.heads[k]) ∧
          t.relayOut[k] = (if s.tables.heads[k].used = true ∧ s.tables.heads[k].relayOut ≠ 0 then
            ⟨0, [], false, true, some (s.partTime + BitVec.ofNat 32 (s.tables.part.relayPeriod.toNat * 500))⟩
            else s.relayOut[k])) ∧
        (∀ c : Fin 8, t.channels[c] = (if s.tables.relays[c].used = true then { s.channels[c] with
          state := .awaiting, expected := none, missed := 0, fault := none, timer := none } else s.channels[c])) ∧
        (∀ k : Fin 24,
          (s.tables.sections[k].inUse = true →
            t.sections[k] = ⟨.disturbed, 0, 0, 0, 0, false, some .start, none, false, false, t.sections[k].warning, s.partTime, none⟩ ∧
            (t.sections[k].warning = true ↔ ∃ n, s.bounds n k ∧ t.troubles n) ∧ t.notice.owed[k] = true) ∧
          (s.tables.sections[k].inUse = false →
            t.sections[k] = { s.sections[k] with
              count := 0, inTally := 0, outTally := 0, absorbed := 0, swept := false, repeated := false, activity := false } ∧
            t.notice.owed[k] = s.notice.owed[k])) ∧
        t.LatchesFollow ∧
        ∀ l : Fin 8, t.lines[l].board = s.lines[l].board ∧ t.lines[l].timer = none ∧
          (s.tables.lines[l].function ≠ .sectionOut → s.tables.lines[l].function ≠ .alarmOut → t.lines[l].latch = s.lines[l].latch) ∧
          t.lines[l].activation = (if s.tables.lines[l].function = .restoreIn ∧ s.sensed l = true then .spent else .idle))

/-- MODE to CONFIG in RUN takes every block out of RUN (R166, with R21, R44, R79, R105, R122, R130, R139, R179);
a mode already held changes nothing, and a value above 1 is refused with RANGE (R165). -/
def Obligations.ConfigIsEntered : Prop :=
  ∀ (s : State) (hdr : Header) (tag p : Byte), s.toManagement hdr → s.fromMaintenance hdr →
    ((p = 0 ∧ s.mode = .config) ∨ (p = 1 ∧ s.mode = .run) → s.answersOnly .mode hdr tag [p] ⟨.ok, []⟩) ∧
    (2 ≤ p.toNat → s.answersOnly .mode hdr tag [p] ⟨.range, []⟩) ∧
    (p = 0 → s.mode = .run →
      let u := s.heard (requestOperand hdr .mode tag [0])
      ∃ t : State, exec (.mode hdr tag [p]) s = .next (t.answered hdr 0x01 tag ⟨.ok, []⟩) ∧
        t = { u with
          mode := .config
          heads := t.heads
          relayOut := Vector.replicate 32 ⟨0, [], false, false, none⟩
          channels := t.channels
          sections := t.sections
          restoreTimers := Vector.replicate 24 none
          notice := { s.notice with owed := Vector.replicate 24 false, hold := .free }
          lines := t.lines } ∧
        (∀ k : Fin 32, t.heads[k] = { s.heads[k] with
          state := .off, fault := none, expected := none, anchor := none, recvA := 0, recvB := 0, missed := 0,
          strikes := 0, timer := none, recog := ⟨.vacant, none, none, none, s.heads[k].recog.rockBack⟩ }) ∧
        (∀ c : Fin 8, t.channels[c] = { s.channels[c] with
          state := .off, expected := none, missed := 0, fault := none, timer := none }) ∧
        (∀ k : Fin 24, t.sections[k] = { s.sections[k] with
          state := .off, count := 0, cause := none, causeSource := none, restoreKind := none,
          swept := false, repeated := false, activity := false, warning := false }) ∧
        t.LatchesFollow ∧
        ∀ l : Fin 8, t.lines[l].board = s.lines[l].board ∧ t.lines[l].timer = none ∧
          (s.tables.lines[l].function ≠ .sectionOut → s.tables.lines[l].function ≠ .alarmOut → t.lines[l].latch = s.lines[l].latch) ∧
          t.lines[l].activation = (if s.tables.lines[l].function = .restoreIn ∧ s.sensed l = true then .spent else .idle))

/-- WRITE: the five checks of R167 in order, none of which writes anything, and the replacement of the records,
with the local lines following a written LINE record or alarm mask (R178, R179). -/
def Obligations.WritesReplaceRecords : Prop :=
  ∀ (s : State) (hdr : Header) (tag table first less : Byte) (records : List Byte), records.length ≤ 59 →
    s.toManagement hdr → s.fromMaintenance hdr →
    let params := [table, first, less] ++ records
    let count := less.toNat + 1
    let refused (r : Reply) : Prop := s.answersOnly .write hdr tag params r
    (s.mode = .run → refused ⟨.wrongMode, []⟩) ∧
    (s.mode = .config → TableId.ofByte table = none → refused ⟨.range, []⟩) ∧
    ∀ id, s.mode = .config → TableId.ofByte table = some id →
      (records.length ≠ count * id.size → refused ⟨.badLength, []⟩) ∧
      (records.length = count * id.size → id.entries < first.toNat + count → refused ⟨.range, []⟩) ∧
      (records.length = count * id.size → first.toNat + count ≤ id.entries →
        (∀ i f, s.tables.write id first.toNat count records = .error (i, f) →
          refused ⟨.badValue, [BitVec.ofNat 8 i, BitVec.ofNat 8 f]⟩) ∧
        (∀ tables, s.tables.write id first.toNat count records = .ok tables →
          ∃ t : State, exec (.write hdr tag params) s = .next (t.answered hdr 0x02 tag ⟨.ok, []⟩) ∧
            t = { s.heard (requestOperand hdr .write tag params) with tables := tables, lines := t.lines } ∧
            (id ≠ .line → id ≠ .part → t.lines = s.lines) ∧ (id = .line ∨ id = .part → t.LatchesFollow) ∧
            ∀ l : Fin 8, t.lines[l].board = s.lines[l].board ∧
              (tables.lines[l].function ≠ .sectionOut → tables.lines[l].function ≠ .alarmOut →
                t.lines[l].latch = s.lines[l].latch) ∧
              (id = .line ∧ first.toNat ≤ l.val ∧ l.val < first.toNat + count → t.lines[l].timer = none ∧
                t.lines[l].activation = (if tables.lines[l].function = .restoreIn ∧ t.sensed l = true then .spent else .idle)) ∧
              (¬(id = .line ∧ first.toNat ≤ l.val ∧ l.val < first.toNat + count) →
                t.lines[l].timer = s.lines[l].timer ∧ t.lines[l].activation = s.lines[l].activation)))

/-- Records written read back byte for byte (R167, R169, 1.4), but for the spare byte of the PART record, which
reads as 0; every other record and table reads as before. -/
def Obligations.WrittenRecordsReadBack : Prop :=
  ∀ (t t' : Tables) (id : TableId) (first count : Nat) (bs : List Byte), 0 < count → bs.length = count * id.size →
    first + count ≤ id.entries → t.write id first count bs = .ok t' →
    t'.read id first count = (if id = .part then bs.take 11 ++ [0] else bs) ∧
    (id ≠ .part → ∀ i c, i + c ≤ first ∨ first + count ≤ i → t'.read id i c = t.read id i c) ∧
    ∀ id', id' ≠ id → ∀ i c, t'.read id' i c = t.read id' i c

/-- The codes of 1.2 and 1.3, and the ids, entries and record sizes of the tables (1.4). READ and STATUS, from any
station in either mode (R169, R170): their checks, the STATUS records of a head slot (R41), a relay channel (R138), a
section (R104), the ports (R14) and the local lines (R177) in the layouts of chapter 1, and that they change nothing
but the answer queue. The sensed level of a line the part does not drive is its board's level after polarity
(assumption 2). -/
def Obligations.ReadsChangeNothing : Prop :=
  ([SourceState.off, .awaiting, .normal, .late, .lost, .faulty, .inTest].map SourceState.code = [0, 1, 2, 3, 4, 5, 6] ∧
    [FaultCause.seqGap, .edgeTally, .edgeOrder, .tooFast, .sensorFailed, .clock, .timeAnchor, .remoteFault].map FaultCause.code =
      [1, 2, 3, 4, 5, 6, 7, 8] ∧
    [RecogState.vacant, .aFromA, .bFromB, .bothFromA, .bothFromB, .bFromA, .aFromB].map RecogState.code = [0, 1, 2, 3, 4, 5, 6] ∧
    [SecState.off, .disturbed, .restoreWait, .sweep, .occupied, .settling, .clear].map SecState.code = [0, 1, 2, 3, 4, 5, 6] ∧
    [Cause.start, .restart, .countOver, .countUnder, .headFault, .relayFault, .headTest, .headLost, .relayLost, .readmit,
      .restoreAbandoned, .restoreTimeout, .cancelled].map Cause.code = [1, 2, 3, 4, 5, 6, 7, 8, 9, 10, 11, 12, 13] ∧
    [Health.ok, .degraded, .failed].map Health.code = [0, 1, 2] ∧
    [OriginStatus.normal, .awaiting, .faulty].map OriginStatus.code = [0, 1, 2] ∧
    [RestoreKind.sweep, .direct].map RestoreKind.code = [1, 2] ∧ [Mode.config, .run].map Mode.code = [0, 1] ∧
    [LineFunction.off, .sectionOut, .alarmOut, .restoreIn, .inhibitIn].map LineFunction.code = [0, 1, 2, 3, 4] ∧
    [Direction.up, .down].map Direction.code = [0, 1] ∧
    [Result.ok, .notPermitted, .wrongMode, .range, .badValue, .badLength, .validation, .wrongState, .busy, .tooSoon,
      .notEligible, .inhibited, .fieldBusy, .testBlocked, .noRoute, .unknown].map Result.code =
      [0, 1, 2, 3, 4, 5, 6, 7, 8, 9, 10, 11, 12, 13, 14, 15] ∧
    [RequestCode.mode, .write, .read, .status, .readmit, .restart, .noticeHold, .noticeRelease, .watchSet, .capture,
      .restoreSweep, .restoreDirect, .restoreCancel].map RequestCode.byte =
      [0x01, 0x02, 0x03, 0x04, 0x05, 0x06, 0x07, 0x08, 0x09, 0x0A, 0x10, 0x11, 0x12] ∧
    ([1, 2, 3, 4, 5, 6, 7] : List Byte).map TableId.ofByte =
      [some .part, some .head, some .relay, some .sec, some .boundary, some .filter, some .line] ∧
    (∀ b, b = 0 ∨ 7 < b.toNat → TableId.ofByte b = none) ∧
    [TableId.part, .head, .relay, .sec, .boundary, .filter, .line].map TableId.entries = [1, 32, 8, 24, 96, 4, 8] ∧
    [TableId.part, .head, .relay, .sec, .boundary, .filter, .line].map TableId.size = [12, 9, 4, 4, 3, 3, 3]) ∧
  ∀ (s : State) (hdr : Header) (tag : Byte), s.toManagement hdr →
    (∀ table first less : Byte,
      let reply (r : Reply) : Prop := s.answersOnly .read hdr tag [table, first, less] r
      let count := less.toNat + 1
      (TableId.ofByte table = none → reply ⟨.range, []⟩) ∧
      ∀ id, TableId.ofByte table = some id →
        (id.entries < first.toNat + count → reply ⟨.range, []⟩) ∧
        (first.toNat + count ≤ id.entries → 58 < count * id.size → reply ⟨.badLength, []⟩) ∧
        (first.toNat + count ≤ id.entries → count * id.size ≤ 58 →
          reply ⟨.ok, [table, first, less] ++ s.tables.read id first.toNat count⟩)) ∧
    (∀ subject index : Byte,
      let reply (r : Reply) : Prop := s.answersOnly .status hdr tag [subject, index] r
      (4 < subject.toNat → reply ⟨.range, []⟩) ∧
      (subject = 0 ∧ 31 < index.toNat ∨ subject = 1 ∧ 7 < index.toNat ∨ subject = 2 ∧ 23 < index.toNat →
        reply ⟨.range, []⟩) ∧
      let bit (n : Nat) (b : Bool) : Byte := if b then BitVec.ofNat 8 (2 ^ n) else 0
      (∀ k : Fin 32, subject = 0 → index.toNat = k.val →
        let h := s.heads[k]
        let o := s.relayOut[k]
        reply ⟨.ok, [subject, index, h.state.code, (h.fault.map FaultCause.code).getD 0,
          bit 0 h.expected.isSome + bit 1 h.anchor.isSome + bit 2 o.broken, h.expected.getD 0, h.recvA, h.recvB,
          BitVec.ofNat 8 h.missed.val, BitVec.ofNat 8 h.strikes.val, h.healthA.code, h.healthB.code, h.recog.state.code,
          BitVec.ofNat 8 o.pending.length] ++ bytes16 h.repeats ++ bytes16 h.recog.rockBack⟩) ∧
      (∀ c : Fin 8, subject = 1 → index.toNat = c.val →
        let r := s.channels[c]
        reply ⟨.ok, [subject, index, r.state.code, (r.fault.map FaultCause.code).getD 0, bit 0 r.expected.isSome,
          r.expected.getD 0, BitVec.ofNat 8 r.missed.val, r.lastOrigin.code]⟩) ∧
      (∀ k : Fin 24, subject = 2 → index.toNat = k.val →
        let r := s.sections[k]
        reply ⟨.ok, [subject, index, r.state.code, if r.state = .clear then 1 else 0] ++ bytes16 (BitVec.ofNat 16 r.count) ++
          bytes16 r.inTally ++ bytes16 r.outTally ++ bytes16 r.absorbed ++
          [(r.cause.map Cause.code).getD 0, (r.causeSource.map fun n => BitVec.ofNat 8 n.val).getD 255,
            bit 0 r.swept + bit 1 r.repeated + bit 2 r.activity + bit 3 r.warning + bit 4 s.notice.owed[k],
            (r.restoreKind.map RestoreKind.code).getD 0] ++ bytes32 r.disturbedTime⟩) ∧
      (subject = 3 → reply ⟨.ok, [subject, index, s.mode.code, 1, 0] ++ bytes16 s.tallies.fieldDamaged ++
        bytes16 s.tallies.lineDamaged ++ bytes16 s.tallies.misrouted ++ bytes16 s.tallies.unknown ++
        bytes16 s.tallies.forwardDropped ++ bytes16 s.tallies.droppedRequest ++
        [BitVec.ofNat 8 s.linePort.answers.length, BitVec.ofNat 8 s.linePort.forward.length,
          BitVec.ofNat 8 s.fieldPort.orders.length] ++ bytes32 s.partTime⟩) ∧
      (subject = 4 →
        let active (l : Fin 8) : Bool :=
          match s.tables.lines[l].function with
          | .sectionOut | .alarmOut => s.lines[l].latch
          | .off | .restoreIn | .inhibitIn => (s.lines[l].board == .low) == (s.tables.lines[l].polarity == .normal)
        reply ⟨.ok, [subject, index] ++ (List.finRange 8).flatMap fun l =>
          [s.tables.lines[l].function.code, bit 0 (active l)]⟩))

/-- READMIT (R171): refused with RANGE (in CONFIG too, the model's choice, assumption 17), WRONG_MODE or WRONG_STATE, else the source is back in AWAITING (R39,
R127, R136) and every counting section it bounds is DISTURBED with cause READMIT (R97). -/
def Obligations.ReadmitReturnsBrokenSources : Prop :=
  ∀ (s : State) (hdr : Header) (tag p : Byte), s.toManagement hdr → s.fromMaintenance hdr →
    let u := s.heard (requestOperand hdr .readmit tag [p])
    let refused (r : Result) : Prop := s.answersOnly .readmit hdr tag [p] ⟨r, []⟩
    (40 ≤ p.toNat → refused .range) ∧
    ∀ n : Fin 40, p.toNat = n.val →
      (s.mode = .config → refused .wrongMode) ∧
      (s.mode = .run → s.sourceState n ≠ .faulty → s.sourceState n ≠ .lost → refused .wrongState) ∧
      (∀ k : Fin 32, s.mode = .run → n = headSource k → s.heads[k].state = .faulty ∨ s.heads[k].state = .lost →
        exec (.readmit hdr tag [p]) s = .next (({ u with
          heads := upd s.heads k { s.heads[k] with
            state := .awaiting, fault := none, expected := none, anchor := none, recvA := 0, recvB := 0, missed := 0,
            strikes := 0, timer := none, recog := ⟨.vacant, none, none, none, s.heads[k].recog.rockBack⟩ }
          relayOut := upd s.relayOut k { s.relayOut[k] with
            seq := 0, pending := [], broken := false
            ready := s.relayOut[k].ready || s.tables.heads[k].relayOut != 0 } }.deliver n .readmitted).answered hdr 0x05 tag ⟨.ok, []⟩)) ∧
      (∀ c : Fin 8, s.mode = .run → n = channelSource c → s.channels[c].state = .faulty ∨ s.channels[c].state = .lost →
        exec (.readmit hdr tag [p]) s = .next (({ u with
          channels := upd s.channels c { s.channels[c] with
            state := .awaiting, fault := none, expected := none, missed := 0, timer := none } }.deliver n .readmitted).answered
              hdr 0x05 tag ⟨.ok, []⟩))

/-- RESTART only answers and marks itself pending (R173); NOTICE_HOLD and NOTICE_RELEASE set the hold (R146, R147). -/
def Obligations.RestartAndHoldAreTaken : Prop :=
  ∀ (s : State) (hdr : Header) (tag : Byte), s.toManagement hdr →
    (s.fromMaintenance hdr → exec (.restart hdr tag []) s = .next
      ({ s.heard (requestOperand hdr .restart tag []) with pendingRestart := true }.answered hdr 0x06 tag ⟨.ok, []⟩ true)) ∧
    (s.fromInterlocking hdr → exec (.noticeHold hdr tag []) s = .next
      ({ s.heard (requestOperand hdr .noticeHold tag []) with notice := { s.notice with hold := .held } }.answered
        hdr 0x07 tag ⟨.ok, []⟩)) ∧
    (s.fromInterlocking hdr → exec (.noticeRelease hdr tag []) s = .next
      ({ s.heard (requestOperand hdr .noticeRelease tag []) with notice := { s.notice with hold := .free } }.answered
        hdr 0x08 tag ⟨.ok, []⟩))

/-- WATCH_SET replaces one watch entry or is refused with RANGE (R175). CAPTURE returns and removes the oldest
records, a second one only when both fit whole in 61 bytes of data, or is refused with RANGE (R160). The frame
itself is offered to the watch unit first (assumption 7), so the entries and captures are those of `u`. -/
def Obligations.WatchSetAndCaptureAreTaken : Prop :=
  (∀ (s : State) (hdr : Header) (tag entry mode port node nodeMask kind test offset value mask : Byte), s.toManagement hdr →
    s.fromMaintenance hdr →
    let params := [entry, mode, port, node, nodeMask, kind, test, offset, value, mask]
    let u := s.heard (requestOperand hdr .watchSet tag params)
    (3 < entry.toNat ∨ 2 < mode.toNat ∨ 2 < port.toNat ∨ 1 < test.toNat ∨ (test = 1 ∧ 63 < offset.toNat) →
      s.answersOnly .watchSet hdr tag params ⟨.range, []⟩) ∧
    ∀ (e : Fin 4) (m : WatchMode) (q : WatchPort) (x : Option PayloadTest), entry.toNat = e.val →
      (mode = 0 ∧ m = .off ∨ mode = 1 ∧ m = .once ∨ mode = 2 ∧ m = .every) →
      (port = 0 ∧ q = .field ∨ port = 1 ∧ q = .line ∨ port = 2 ∧ q = .either) →
      (test = 0 ∧ x = none ∨ test = 1 ∧ ∃ o : Fin 64, offset.toNat = o.val ∧ x = some ⟨o, value, mask⟩) →
      exec (.watchSet hdr tag params) s = .next ({ u with watch := { u.watch with
        entries := upd u.watch.entries e ⟨m, q, node, nodeMask, kind, x⟩ } }.answered hdr 0x09 tag ⟨.ok, []⟩)) ∧
  (∀ (s : State) (hdr : Header) (tag p : Byte), s.toManagement hdr → s.tables.part.maintenance ≠ 0 →
    s.tables.part.maintenance = hdr.srcStation →
    let u := s.heard (requestOperand hdr .capture tag [p])
    let record (c : Capture) : List Byte :=
      [BitVec.ofNat 8 c.entry.val] ++ bytes32 c.time ++ [BitVec.ofNat 8 c.bytes.length] ++ c.bytes.take 54
    let gives (rs rest : List Capture) : Prop := exec (.capture hdr tag [p]) s =
      .next ({ u with watch := { u.watch with captures := rest } }.answered hdr 0x0A tag
        ⟨.ok, BitVec.ofNat 8 rs.length :: rs.flatMap record⟩)
    (p ≠ 1 → p ≠ 2 → s.answersOnly .capture hdr tag [p] ⟨.range, []⟩) ∧
    (p = 1 ∨ p = 2 → u.watch.captures = [] → gives [] []) ∧
    (∀ a rest, p = 1 ∨ rest = [] → p = 1 ∨ p = 2 → u.watch.captures = a :: rest → gives [a] rest) ∧
    (∀ a b rest, p = 2 → u.watch.captures = a :: b :: rest →
      (1 + (6 + a.bytes.length) + (6 + b.bytes.length) ≤ 61 → gives [a, b] rest) ∧
      (61 < 1 + (6 + a.bytes.length) + (6 + b.bytes.length) → gives [a] (b :: rest))))

/-! ## Local lines (chapter 11) -/

/-- A change of the level at a pin (R177, R179): only the board's level changes, and a RESTORE_IN line whose
sensed level changes with it starts or ends its activation; the pin is low while the part or the board pulls it
(assumption 2). The 500 ms timer of a RESTORE_IN line (R179): SPENT, and a sweep restore of its section, accepted
as R110 says or refused silently (R117); when the timer is due is the model's choice (assumption 3). -/
def Obligations.RestoreInLinesActivate : Prop :=
  (∀ (s : State) (l : Fin 8) (v : PinLevel), s.pins.resetLow = false →
    let x := s.lines[l]
    let active (level : PinLevel) : Prop :=
      (s.tables.lines[l].polarity = .normal ∧ level = .low) ∨ (s.tables.lines[l].polarity = .inverted ∧ level = .high)
    let become (y : LineRun) : Prop := exec (.localLineLevelChange l v) s = .next { s with lines := upd s.lines l y }
    (s.tables.lines[l].function ≠ .restoreIn ∨ x.board = v → become { x with board := v }) ∧
    (s.tables.lines[l].function = .restoreIn → x.board ≠ v →
      (active v → x.activation = .idle →
        become { x with board := v, activation := .timing, timer := some (s.partTime + 25000) }) ∧
      (active v → x.activation ≠ .idle → become { x with board := v }) ∧
      (¬active v → x.activation = .timing → become { x with board := v, activation := .idle, timer := none }) ∧
      (¬active v → x.activation ≠ .timing → become { x with board := v, activation := .idle }))) ∧
  (∀ (s : State) (l : Fin 8), s.pins.resetLow = false →
    let x := s.lines[l]
    let k := s.tables.lines[l].sec
    let fires := s.tables.lines[l].function = .restoreIn ∧ x.activation = .timing ∧ x.timer.reached s.partTime
    let spent : State := { s with lines := upd s.lines l { x with activation := .spent, timer := none } }
    (¬fires → exec (.restoreInTimerExpiry l) s = .next s) ∧
    (fires → ¬s.restorable .sweep k → exec (.restoreInTimerExpiry l) s = .next spent) ∧
    (fires → s.restorable .sweep k → ∃ t : State, exec (.restoreInTimerExpiry l) s = .next t ∧
      t = spent.acceptRestore .sweep k ∧ t.linePort = s.linePort ∧ t.sections[k].cause = none ∧ t.sections[k].count = 0 ∧
      ((∀ n, s.bounds n k → s.sourceState n = .normal) → t.sections[k].state = .sweep) ∧
      (¬(∀ n, s.bounds n k → s.sourceState n = .normal) → t.sections[k].state = .restoreWait)))

/-! ## The fields of a WRITE (chapter 10) -/

/-- The field checks of a WRITE (R168) and what it stores (1.4): BAD_VALUE names the lowest record with a field out of
range and the lowest such field in it, whether or not the record is used; with none, each record holds what its
bytes spell. -/
def Obligations.WrittenFieldsAreChecked : Prop :=
  ∀ (t : Tables) (id : TableId) (first count : Nat) (bs : List Byte), 0 < count → bs.length = count * id.size →
    first + count ≤ id.entries →
    let record (i : Nat) := (bs.drop (i * id.size)).take id.size
    (∀ i f, t.write id first count bs = .error (i, f) ↔
      i < count ∧ id.outOfRange (record i) f ∧ (∀ g, g < f → ¬id.outOfRange (record i) g) ∧
        ∀ j, j < i → ∀ g, ¬id.outOfRange (record j) g) ∧
    ∀ t', t.write id first count bs = .ok t' → ∀ i, i < count → t'.spells id (first + i) (record i)
end

