-- ==== Sys2Proof/Laws/State.lean ====
section
/-! SUPPORT. One lemma per field per update of the state, each true by rfl. -/

namespace Sys2Proof.Machine

variable (s : State)

/-! ### setHead -/

@[simp] theorem State.setHead_pending (k : Fin 32) (h : HeadRun) : (s.setHead k h).pending = s.pending := rfl
@[simp] theorem State.setHead_pins (k : Fin 32) (h : HeadRun) : (s.setHead k h).pins = s.pins := rfl
@[simp] theorem State.setHead_partTime (k : Fin 32) (h : HeadRun) : (s.setHead k h).partTime = s.partTime := rfl
@[simp] theorem State.setHead_mode (k : Fin 32) (h : HeadRun) : (s.setHead k h).mode = s.mode := rfl
@[simp] theorem State.setHead_pendingRestart (k : Fin 32) (h : HeadRun) : (s.setHead k h).pendingRestart = s.pendingRestart := rfl
@[simp] theorem State.setHead_tables (k : Fin 32) (h : HeadRun) : (s.setHead k h).tables = s.tables := rfl
@[simp] theorem State.setHead_tallies (k : Fin 32) (h : HeadRun) : (s.setHead k h).tallies = s.tallies := rfl
@[simp] theorem State.setHead_fieldPort (k : Fin 32) (h : HeadRun) : (s.setHead k h).fieldPort = s.fieldPort := rfl
@[simp] theorem State.setHead_linePort (k : Fin 32) (h : HeadRun) : (s.setHead k h).linePort = s.linePort := rfl
@[simp] theorem State.setHead_heads (k : Fin 32) (h : HeadRun) : (s.setHead k h).heads = upd s.heads k h := rfl
@[simp] theorem State.setHead_relayOut (k : Fin 32) (h : HeadRun) : (s.setHead k h).relayOut = s.relayOut := rfl
@[simp] theorem State.setHead_channels (k : Fin 32) (h : HeadRun) : (s.setHead k h).channels = s.channels := rfl
@[simp] theorem State.setHead_sections (k : Fin 32) (h : HeadRun) : (s.setHead k h).sections = s.sections := rfl
@[simp] theorem State.setHead_restoreTimers (k : Fin 32) (h : HeadRun) : (s.setHead k h).restoreTimers = s.restoreTimers := rfl
@[simp] theorem State.setHead_notice (k : Fin 32) (h : HeadRun) : (s.setHead k h).notice = s.notice := rfl
@[simp] theorem State.setHead_watch (k : Fin 32) (h : HeadRun) : (s.setHead k h).watch = s.watch := rfl
@[simp] theorem State.setHead_lines (k : Fin 32) (h : HeadRun) : (s.setHead k h).lines = s.lines := rfl

/-! ### setRelayOut -/

@[simp] theorem State.setRelayOut_pending (k : Fin 32) (r : RelayOut) : (s.setRelayOut k r).pending = s.pending := rfl
@[simp] theorem State.setRelayOut_pins (k : Fin 32) (r : RelayOut) : (s.setRelayOut k r).pins = s.pins := rfl
@[simp] theorem State.setRelayOut_partTime (k : Fin 32) (r : RelayOut) : (s.setRelayOut k r).partTime = s.partTime := rfl
@[simp] theorem State.setRelayOut_mode (k : Fin 32) (r : RelayOut) : (s.setRelayOut k r).mode = s.mode := rfl
@[simp] theorem State.setRelayOut_pendingRestart (k : Fin 32) (r : RelayOut) : (s.setRelayOut k r).pendingRestart = s.pendingRestart := rfl
@[simp] theorem State.setRelayOut_tables (k : Fin 32) (r : RelayOut) : (s.setRelayOut k r).tables = s.tables := rfl
@[simp] theorem State.setRelayOut_tallies (k : Fin 32) (r : RelayOut) : (s.setRelayOut k r).tallies = s.tallies := rfl
@[simp] theorem State.setRelayOut_fieldPort (k : Fin 32) (r : RelayOut) : (s.setRelayOut k r).fieldPort = s.fieldPort := rfl
@[simp] theorem State.setRelayOut_linePort (k : Fin 32) (r : RelayOut) : (s.setRelayOut k r).linePort = s.linePort := rfl
@[simp] theorem State.setRelayOut_heads (k : Fin 32) (r : RelayOut) : (s.setRelayOut k r).heads = s.heads := rfl
@[simp] theorem State.setRelayOut_relayOut (k : Fin 32) (r : RelayOut) : (s.setRelayOut k r).relayOut = upd s.relayOut k r := rfl
@[simp] theorem State.setRelayOut_channels (k : Fin 32) (r : RelayOut) : (s.setRelayOut k r).channels = s.channels := rfl
@[simp] theorem State.setRelayOut_sections (k : Fin 32) (r : RelayOut) : (s.setRelayOut k r).sections = s.sections := rfl
@[simp] theorem State.setRelayOut_restoreTimers (k : Fin 32) (r : RelayOut) : (s.setRelayOut k r).restoreTimers = s.restoreTimers := rfl
@[simp] theorem State.setRelayOut_notice (k : Fin 32) (r : RelayOut) : (s.setRelayOut k r).notice = s.notice := rfl
@[simp] theorem State.setRelayOut_watch (k : Fin 32) (r : RelayOut) : (s.setRelayOut k r).watch = s.watch := rfl
@[simp] theorem State.setRelayOut_lines (k : Fin 32) (r : RelayOut) : (s.setRelayOut k r).lines = s.lines := rfl

/-! ### setChannel -/

@[simp] theorem State.setChannel_pending (c : Fin 8) (r : Channel) : (s.setChannel c r).pending = s.pending := rfl
@[simp] theorem State.setChannel_pins (c : Fin 8) (r : Channel) : (s.setChannel c r).pins = s.pins := rfl
@[simp] theorem State.setChannel_partTime (c : Fin 8) (r : Channel) : (s.setChannel c r).partTime = s.partTime := rfl
@[simp] theorem State.setChannel_mode (c : Fin 8) (r : Channel) : (s.setChannel c r).mode = s.mode := rfl
@[simp] theorem State.setChannel_pendingRestart (c : Fin 8) (r : Channel) : (s.setChannel c r).pendingRestart = s.pendingRestart := rfl
@[simp] theorem State.setChannel_tables (c : Fin 8) (r : Channel) : (s.setChannel c r).tables = s.tables := rfl
@[simp] theorem State.setChannel_tallies (c : Fin 8) (r : Channel) : (s.setChannel c r).tallies = s.tallies := rfl
@[simp] theorem State.setChannel_fieldPort (c : Fin 8) (r : Channel) : (s.setChannel c r).fieldPort = s.fieldPort := rfl
@[simp] theorem State.setChannel_linePort (c : Fin 8) (r : Channel) : (s.setChannel c r).linePort = s.linePort := rfl
@[simp] theorem State.setChannel_heads (c : Fin 8) (r : Channel) : (s.setChannel c r).heads = s.heads := rfl
@[simp] theorem State.setChannel_relayOut (c : Fin 8) (r : Channel) : (s.setChannel c r).relayOut = s.relayOut := rfl
@[simp] theorem State.setChannel_channels (c : Fin 8) (r : Channel) : (s.setChannel c r).channels = upd s.channels c r := rfl
@[simp] theorem State.setChannel_sections (c : Fin 8) (r : Channel) : (s.setChannel c r).sections = s.sections := rfl
@[simp] theorem State.setChannel_restoreTimers (c : Fin 8) (r : Channel) : (s.setChannel c r).restoreTimers = s.restoreTimers := rfl
@[simp] theorem State.setChannel_notice (c : Fin 8) (r : Channel) : (s.setChannel c r).notice = s.notice := rfl
@[simp] theorem State.setChannel_watch (c : Fin 8) (r : Channel) : (s.setChannel c r).watch = s.watch := rfl
@[simp] theorem State.setChannel_lines (c : Fin 8) (r : Channel) : (s.setChannel c r).lines = s.lines := rfl

/-! ### setSection -/

@[simp] theorem State.setSection_pending (k : Fin 24) (r : SecRun) : (s.setSection k r).pending = s.pending := rfl
@[simp] theorem State.setSection_pins (k : Fin 24) (r : SecRun) : (s.setSection k r).pins = s.pins := rfl
@[simp] theorem State.setSection_partTime (k : Fin 24) (r : SecRun) : (s.setSection k r).partTime = s.partTime := rfl
@[simp] theorem State.setSection_mode (k : Fin 24) (r : SecRun) : (s.setSection k r).mode = s.mode := rfl
@[simp] theorem State.setSection_pendingRestart (k : Fin 24) (r : SecRun) : (s.setSection k r).pendingRestart = s.pendingRestart := rfl
@[simp] theorem State.setSection_tables (k : Fin 24) (r : SecRun) : (s.setSection k r).tables = s.tables := rfl
@[simp] theorem State.setSection_tallies (k : Fin 24) (r : SecRun) : (s.setSection k r).tallies = s.tallies := rfl
@[simp] theorem State.setSection_fieldPort (k : Fin 24) (r : SecRun) : (s.setSection k r).fieldPort = s.fieldPort := rfl
@[simp] theorem State.setSection_linePort (k : Fin 24) (r : SecRun) : (s.setSection k r).linePort = s.linePort := rfl
@[simp] theorem State.setSection_heads (k : Fin 24) (r : SecRun) : (s.setSection k r).heads = s.heads := rfl
@[simp] theorem State.setSection_relayOut (k : Fin 24) (r : SecRun) : (s.setSection k r).relayOut = s.relayOut := rfl
@[simp] theorem State.setSection_channels (k : Fin 24) (r : SecRun) : (s.setSection k r).channels = s.channels := rfl
@[simp] theorem State.setSection_sections (k : Fin 24) (r : SecRun) : (s.setSection k r).sections = upd s.sections k r := rfl
@[simp] theorem State.setSection_restoreTimers (k : Fin 24) (r : SecRun) : (s.setSection k r).restoreTimers = s.restoreTimers := rfl
@[simp] theorem State.setSection_notice (k : Fin 24) (r : SecRun) : (s.setSection k r).notice = s.notice := rfl
@[simp] theorem State.setSection_watch (k : Fin 24) (r : SecRun) : (s.setSection k r).watch = s.watch := rfl
@[simp] theorem State.setSection_lines (k : Fin 24) (r : SecRun) : (s.setSection k r).lines = s.lines := rfl

/-! ### setRestoreTimer -/

@[simp] theorem State.setRestoreTimer_pending (k : Fin 24) (t : Timer) : (s.setRestoreTimer k t).pending = s.pending := rfl
@[simp] theorem State.setRestoreTimer_pins (k : Fin 24) (t : Timer) : (s.setRestoreTimer k t).pins = s.pins := rfl
@[simp] theorem State.setRestoreTimer_partTime (k : Fin 24) (t : Timer) : (s.setRestoreTimer k t).partTime = s.partTime := rfl
@[simp] theorem State.setRestoreTimer_mode (k : Fin 24) (t : Timer) : (s.setRestoreTimer k t).mode = s.mode := rfl
@[simp] theorem State.setRestoreTimer_pendingRestart (k : Fin 24) (t : Timer) : (s.setRestoreTimer k t).pendingRestart = s.pendingRestart := rfl
@[simp] theorem State.setRestoreTimer_tables (k : Fin 24) (t : Timer) : (s.setRestoreTimer k t).tables = s.tables := rfl
@[simp] theorem State.setRestoreTimer_tallies (k : Fin 24) (t : Timer) : (s.setRestoreTimer k t).tallies = s.tallies := rfl
@[simp] theorem State.setRestoreTimer_fieldPort (k : Fin 24) (t : Timer) : (s.setRestoreTimer k t).fieldPort = s.fieldPort := rfl
@[simp] theorem State.setRestoreTimer_linePort (k : Fin 24) (t : Timer) : (s.setRestoreTimer k t).linePort = s.linePort := rfl
@[simp] theorem State.setRestoreTimer_heads (k : Fin 24) (t : Timer) : (s.setRestoreTimer k t).heads = s.heads := rfl
@[simp] theorem State.setRestoreTimer_relayOut (k : Fin 24) (t : Timer) : (s.setRestoreTimer k t).relayOut = s.relayOut := rfl
@[simp] theorem State.setRestoreTimer_channels (k : Fin 24) (t : Timer) : (s.setRestoreTimer k t).channels = s.channels := rfl
@[simp] theorem State.setRestoreTimer_sections (k : Fin 24) (t : Timer) : (s.setRestoreTimer k t).sections = s.sections := rfl
@[simp] theorem State.setRestoreTimer_restoreTimers (k : Fin 24) (t : Timer) : (s.setRestoreTimer k t).restoreTimers = upd s.restoreTimers k t := rfl
@[simp] theorem State.setRestoreTimer_notice (k : Fin 24) (t : Timer) : (s.setRestoreTimer k t).notice = s.notice := rfl
@[simp] theorem State.setRestoreTimer_watch (k : Fin 24) (t : Timer) : (s.setRestoreTimer k t).watch = s.watch := rfl
@[simp] theorem State.setRestoreTimer_lines (k : Fin 24) (t : Timer) : (s.setRestoreTimer k t).lines = s.lines := rfl

/-! ### setOwed -/

@[simp] theorem State.setOwed_pending (k : Fin 24) (b : Bool) : (s.setOwed k b).pending = s.pending := rfl
@[simp] theorem State.setOwed_pins (k : Fin 24) (b : Bool) : (s.setOwed k b).pins = s.pins := rfl
@[simp] theorem State.setOwed_partTime (k : Fin 24) (b : Bool) : (s.setOwed k b).partTime = s.partTime := rfl
@[simp] theorem State.setOwed_mode (k : Fin 24) (b : Bool) : (s.setOwed k b).mode = s.mode := rfl
@[simp] theorem State.setOwed_pendingRestart (k : Fin 24) (b : Bool) : (s.setOwed k b).pendingRestart = s.pendingRestart := rfl
@[simp] theorem State.setOwed_tables (k : Fin 24) (b : Bool) : (s.setOwed k b).tables = s.tables := rfl
@[simp] theorem State.setOwed_tallies (k : Fin 24) (b : Bool) : (s.setOwed k b).tallies = s.tallies := rfl
@[simp] theorem State.setOwed_fieldPort (k : Fin 24) (b : Bool) : (s.setOwed k b).fieldPort = s.fieldPort := rfl
@[simp] theorem State.setOwed_linePort (k : Fin 24) (b : Bool) : (s.setOwed k b).linePort = s.linePort := rfl
@[simp] theorem State.setOwed_heads (k : Fin 24) (b : Bool) : (s.setOwed k b).heads = s.heads := rfl
@[simp] theorem State.setOwed_relayOut (k : Fin 24) (b : Bool) : (s.setOwed k b).relayOut = s.relayOut := rfl
@[simp] theorem State.setOwed_channels (k : Fin 24) (b : Bool) : (s.setOwed k b).channels = s.channels := rfl
@[simp] theorem State.setOwed_sections (k : Fin 24) (b : Bool) : (s.setOwed k b).sections = s.sections := rfl
@[simp] theorem State.setOwed_restoreTimers (k : Fin 24) (b : Bool) : (s.setOwed k b).restoreTimers = s.restoreTimers := rfl
@[simp] theorem State.setOwed_notice (k : Fin 24) (b : Bool) : (s.setOwed k b).notice = { s.notice with owed := upd s.notice.owed k b } := rfl
@[simp] theorem State.setOwed_watch (k : Fin 24) (b : Bool) : (s.setOwed k b).watch = s.watch := rfl
@[simp] theorem State.setOwed_lines (k : Fin 24) (b : Bool) : (s.setOwed k b).lines = s.lines := rfl

/-! ### setLine -/

@[simp] theorem State.setLine_pending (k : Fin 8) (l : LineRun) : (s.setLine k l).pending = s.pending := rfl
@[simp] theorem State.setLine_pins (k : Fin 8) (l : LineRun) : (s.setLine k l).pins = s.pins := rfl
@[simp] theorem State.setLine_partTime (k : Fin 8) (l : LineRun) : (s.setLine k l).partTime = s.partTime := rfl
@[simp] theorem State.setLine_mode (k : Fin 8) (l : LineRun) : (s.setLine k l).mode = s.mode := rfl
@[simp] theorem State.setLine_pendingRestart (k : Fin 8) (l : LineRun) : (s.setLine k l).pendingRestart = s.pendingRestart := rfl
@[simp] theorem State.setLine_tables (k : Fin 8) (l : LineRun) : (s.setLine k l).tables = s.tables := rfl
@[simp] theorem State.setLine_tallies (k : Fin 8) (l : LineRun) : (s.setLine k l).tallies = s.tallies := rfl
@[simp] theorem State.setLine_fieldPort (k : Fin 8) (l : LineRun) : (s.setLine k l).fieldPort = s.fieldPort := rfl
@[simp] theorem State.setLine_linePort (k : Fin 8) (l : LineRun) : (s.setLine k l).linePort = s.linePort := rfl
@[simp] theorem State.setLine_heads (k : Fin 8) (l : LineRun) : (s.setLine k l).heads = s.heads := rfl
@[simp] theorem State.setLine_relayOut (k : Fin 8) (l : LineRun) : (s.setLine k l).relayOut = s.relayOut := rfl
@[simp] theorem State.setLine_channels (k : Fin 8) (l : LineRun) : (s.setLine k l).channels = s.channels := rfl
@[simp] theorem State.setLine_sections (k : Fin 8) (l : LineRun) : (s.setLine k l).sections = s.sections := rfl
@[simp] theorem State.setLine_restoreTimers (k : Fin 8) (l : LineRun) : (s.setLine k l).restoreTimers = s.restoreTimers := rfl
@[simp] theorem State.setLine_notice (k : Fin 8) (l : LineRun) : (s.setLine k l).notice = s.notice := rfl
@[simp] theorem State.setLine_watch (k : Fin 8) (l : LineRun) : (s.setLine k l).watch = s.watch := rfl
@[simp] theorem State.setLine_lines (k : Fin 8) (l : LineRun) : (s.setLine k l).lines = upd s.lines k l := rfl

/-! ### setTallies -/

@[simp] theorem State.setTallies_pending (t : Tallies) : (s.setTallies t).pending = s.pending := rfl
@[simp] theorem State.setTallies_pins (t : Tallies) : (s.setTallies t).pins = s.pins := rfl
@[simp] theorem State.setTallies_partTime (t : Tallies) : (s.setTallies t).partTime = s.partTime := rfl
@[simp] theorem State.setTallies_mode (t : Tallies) : (s.setTallies t).mode = s.mode := rfl
@[simp] theorem State.setTallies_pendingRestart (t : Tallies) : (s.setTallies t).pendingRestart = s.pendingRestart := rfl
@[simp] theorem State.setTallies_tables (t : Tallies) : (s.setTallies t).tables = s.tables := rfl
@[simp] theorem State.setTallies_tallies (t : Tallies) : (s.setTallies t).tallies = t := rfl
@[simp] theorem State.setTallies_fieldPort (t : Tallies) : (s.setTallies t).fieldPort = s.fieldPort := rfl
@[simp] theorem State.setTallies_linePort (t : Tallies) : (s.setTallies t).linePort = s.linePort := rfl
@[simp] theorem State.setTallies_heads (t : Tallies) : (s.setTallies t).heads = s.heads := rfl
@[simp] theorem State.setTallies_relayOut (t : Tallies) : (s.setTallies t).relayOut = s.relayOut := rfl
@[simp] theorem State.setTallies_channels (t : Tallies) : (s.setTallies t).channels = s.channels := rfl
@[simp] theorem State.setTallies_sections (t : Tallies) : (s.setTallies t).sections = s.sections := rfl
@[simp] theorem State.setTallies_restoreTimers (t : Tallies) : (s.setTallies t).restoreTimers = s.restoreTimers := rfl
@[simp] theorem State.setTallies_notice (t : Tallies) : (s.setTallies t).notice = s.notice := rfl
@[simp] theorem State.setTallies_watch (t : Tallies) : (s.setTallies t).watch = s.watch := rfl
@[simp] theorem State.setTallies_lines (t : Tallies) : (s.setTallies t).lines = s.lines := rfl

/-! ### setFieldPort -/

@[simp] theorem State.setFieldPort_pending (p : FieldPort) : (s.setFieldPort p).pending = s.pending := rfl
@[simp] theorem State.setFieldPort_pins (p : FieldPort) : (s.setFieldPort p).pins = s.pins := rfl
@[simp] theorem State.setFieldPort_partTime (p : FieldPort) : (s.setFieldPort p).partTime = s.partTime := rfl
@[simp] theorem State.setFieldPort_mode (p : FieldPort) : (s.setFieldPort p).mode = s.mode := rfl
@[simp] theorem State.setFieldPort_pendingRestart (p : FieldPort) : (s.setFieldPort p).pendingRestart = s.pendingRestart := rfl
@[simp] theorem State.setFieldPort_tables (p : FieldPort) : (s.setFieldPort p).tables = s.tables := rfl
@[simp] theorem State.setFieldPort_tallies (p : FieldPort) : (s.setFieldPort p).tallies = s.tallies := rfl
@[simp] theorem State.setFieldPort_fieldPort (p : FieldPort) : (s.setFieldPort p).fieldPort = p := rfl
@[simp] theorem State.setFieldPort_linePort (p : FieldPort) : (s.setFieldPort p).linePort = s.linePort := rfl
@[simp] theorem State.setFieldPort_heads (p : FieldPort) : (s.setFieldPort p).heads = s.heads := rfl
@[simp] theorem State.setFieldPort_relayOut (p : FieldPort) : (s.setFieldPort p).relayOut = s.relayOut := rfl
@[simp] theorem State.setFieldPort_channels (p : FieldPort) : (s.setFieldPort p).channels = s.channels := rfl
@[simp] theorem State.setFieldPort_sections (p : FieldPort) : (s.setFieldPort p).sections = s.sections := rfl
@[simp] theorem State.setFieldPort_restoreTimers (p : FieldPort) : (s.setFieldPort p).restoreTimers = s.restoreTimers := rfl
@[simp] theorem State.setFieldPort_notice (p : FieldPort) : (s.setFieldPort p).notice = s.notice := rfl
@[simp] theorem State.setFieldPort_watch (p : FieldPort) : (s.setFieldPort p).watch = s.watch := rfl
@[simp] theorem State.setFieldPort_lines (p : FieldPort) : (s.setFieldPort p).lines = s.lines := rfl

/-! ### setLinePort -/

@[simp] theorem State.setLinePort_pending (p : LinePort) : (s.setLinePort p).pending = s.pending := rfl
@[simp] theorem State.setLinePort_pins (p : LinePort) : (s.setLinePort p).pins = s.pins := rfl
@[simp] theorem State.setLinePort_partTime (p : LinePort) : (s.setLinePort p).partTime = s.partTime := rfl
@[simp] theorem State.setLinePort_mode (p : LinePort) : (s.setLinePort p).mode = s.mode := rfl
@[simp] theorem State.setLinePort_pendingRestart (p : LinePort) : (s.setLinePort p).pendingRestart = s.pendingRestart := rfl
@[simp] theorem State.setLinePort_tables (p : LinePort) : (s.setLinePort p).tables = s.tables := rfl
@[simp] theorem State.setLinePort_tallies (p : LinePort) : (s.setLinePort p).tallies = s.tallies := rfl
@[simp] theorem State.setLinePort_fieldPort (p : LinePort) : (s.setLinePort p).fieldPort = s.fieldPort := rfl
@[simp] theorem State.setLinePort_linePort (p : LinePort) : (s.setLinePort p).linePort = p := rfl
@[simp] theorem State.setLinePort_heads (p : LinePort) : (s.setLinePort p).heads = s.heads := rfl
@[simp] theorem State.setLinePort_relayOut (p : LinePort) : (s.setLinePort p).relayOut = s.relayOut := rfl
@[simp] theorem State.setLinePort_channels (p : LinePort) : (s.setLinePort p).channels = s.channels := rfl
@[simp] theorem State.setLinePort_sections (p : LinePort) : (s.setLinePort p).sections = s.sections := rfl
@[simp] theorem State.setLinePort_restoreTimers (p : LinePort) : (s.setLinePort p).restoreTimers = s.restoreTimers := rfl
@[simp] theorem State.setLinePort_notice (p : LinePort) : (s.setLinePort p).notice = s.notice := rfl
@[simp] theorem State.setLinePort_watch (p : LinePort) : (s.setLinePort p).watch = s.watch := rfl
@[simp] theorem State.setLinePort_lines (p : LinePort) : (s.setLinePort p).lines = s.lines := rfl

/-! ### setNotice -/

@[simp] theorem State.setNotice_pending (n : Notice) : (s.setNotice n).pending = s.pending := rfl
@[simp] theorem State.setNotice_pins (n : Notice) : (s.setNotice n).pins = s.pins := rfl
@[simp] theorem State.setNotice_partTime (n : Notice) : (s.setNotice n).partTime = s.partTime := rfl
@[simp] theorem State.setNotice_mode (n : Notice) : (s.setNotice n).mode = s.mode := rfl
@[simp] theorem State.setNotice_pendingRestart (n : Notice) : (s.setNotice n).pendingRestart = s.pendingRestart := rfl
@[simp] theorem State.setNotice_tables (n : Notice) : (s.setNotice n).tables = s.tables := rfl
@[simp] theorem State.setNotice_tallies (n : Notice) : (s.setNotice n).tallies = s.tallies := rfl
@[simp] theorem State.setNotice_fieldPort (n : Notice) : (s.setNotice n).fieldPort = s.fieldPort := rfl
@[simp] theorem State.setNotice_linePort (n : Notice) : (s.setNotice n).linePort = s.linePort := rfl
@[simp] theorem State.setNotice_heads (n : Notice) : (s.setNotice n).heads = s.heads := rfl
@[simp] theorem State.setNotice_relayOut (n : Notice) : (s.setNotice n).relayOut = s.relayOut := rfl
@[simp] theorem State.setNotice_channels (n : Notice) : (s.setNotice n).channels = s.channels := rfl
@[simp] theorem State.setNotice_sections (n : Notice) : (s.setNotice n).sections = s.sections := rfl
@[simp] theorem State.setNotice_restoreTimers (n : Notice) : (s.setNotice n).restoreTimers = s.restoreTimers := rfl
@[simp] theorem State.setNotice_notice (n : Notice) : (s.setNotice n).notice = n := rfl
@[simp] theorem State.setNotice_watch (n : Notice) : (s.setNotice n).watch = s.watch := rfl
@[simp] theorem State.setNotice_lines (n : Notice) : (s.setNotice n).lines = s.lines := rfl

/-! ### setWatch -/

@[simp] theorem State.setWatch_pending (w : Watch) : (s.setWatch w).pending = s.pending := rfl
@[simp] theorem State.setWatch_pins (w : Watch) : (s.setWatch w).pins = s.pins := rfl
@[simp] theorem State.setWatch_partTime (w : Watch) : (s.setWatch w).partTime = s.partTime := rfl
@[simp] theorem State.setWatch_mode (w : Watch) : (s.setWatch w).mode = s.mode := rfl
@[simp] theorem State.setWatch_pendingRestart (w : Watch) : (s.setWatch w).pendingRestart = s.pendingRestart := rfl
@[simp] theorem State.setWatch_tables (w : Watch) : (s.setWatch w).tables = s.tables := rfl
@[simp] theorem State.setWatch_tallies (w : Watch) : (s.setWatch w).tallies = s.tallies := rfl
@[simp] theorem State.setWatch_fieldPort (w : Watch) : (s.setWatch w).fieldPort = s.fieldPort := rfl
@[simp] theorem State.setWatch_linePort (w : Watch) : (s.setWatch w).linePort = s.linePort := rfl
@[simp] theorem State.setWatch_heads (w : Watch) : (s.setWatch w).heads = s.heads := rfl
@[simp] theorem State.setWatch_relayOut (w : Watch) : (s.setWatch w).relayOut = s.relayOut := rfl
@[simp] theorem State.setWatch_channels (w : Watch) : (s.setWatch w).channels = s.channels := rfl
@[simp] theorem State.setWatch_sections (w : Watch) : (s.setWatch w).sections = s.sections := rfl
@[simp] theorem State.setWatch_restoreTimers (w : Watch) : (s.setWatch w).restoreTimers = s.restoreTimers := rfl
@[simp] theorem State.setWatch_notice (w : Watch) : (s.setWatch w).notice = s.notice := rfl
@[simp] theorem State.setWatch_watch (w : Watch) : (s.setWatch w).watch = w := rfl
@[simp] theorem State.setWatch_lines (w : Watch) : (s.setWatch w).lines = s.lines := rfl

/-! ### setTables -/

@[simp] theorem State.setTables_pending (t : Tables) : (s.setTables t).pending = s.pending := rfl
@[simp] theorem State.setTables_pins (t : Tables) : (s.setTables t).pins = s.pins := rfl
@[simp] theorem State.setTables_partTime (t : Tables) : (s.setTables t).partTime = s.partTime := rfl
@[simp] theorem State.setTables_mode (t : Tables) : (s.setTables t).mode = s.mode := rfl
@[simp] theorem State.setTables_pendingRestart (t : Tables) : (s.setTables t).pendingRestart = s.pendingRestart := rfl
@[simp] theorem State.setTables_tables (t : Tables) : (s.setTables t).tables = t := rfl
@[simp] theorem State.setTables_tallies (t : Tables) : (s.setTables t).tallies = s.tallies := rfl
@[simp] theorem State.setTables_fieldPort (t : Tables) : (s.setTables t).fieldPort = s.fieldPort := rfl
@[simp] theorem State.setTables_linePort (t : Tables) : (s.setTables t).linePort = s.linePort := rfl
@[simp] theorem State.setTables_heads (t : Tables) : (s.setTables t).heads = s.heads := rfl
@[simp] theorem State.setTables_relayOut (t : Tables) : (s.setTables t).relayOut = s.relayOut := rfl
@[simp] theorem State.setTables_channels (t : Tables) : (s.setTables t).channels = s.channels := rfl
@[simp] theorem State.setTables_sections (t : Tables) : (s.setTables t).sections = s.sections := rfl
@[simp] theorem State.setTables_restoreTimers (t : Tables) : (s.setTables t).restoreTimers = s.restoreTimers := rfl
@[simp] theorem State.setTables_notice (t : Tables) : (s.setTables t).notice = s.notice := rfl
@[simp] theorem State.setTables_watch (t : Tables) : (s.setTables t).watch = s.watch := rfl
@[simp] theorem State.setTables_lines (t : Tables) : (s.setTables t).lines = s.lines := rfl

/-! ### setMode -/

@[simp] theorem State.setMode_pending (m : Mode) : (s.setMode m).pending = s.pending := rfl
@[simp] theorem State.setMode_pins (m : Mode) : (s.setMode m).pins = s.pins := rfl
@[simp] theorem State.setMode_partTime (m : Mode) : (s.setMode m).partTime = s.partTime := rfl
@[simp] theorem State.setMode_mode (m : Mode) : (s.setMode m).mode = m := rfl
@[simp] theorem State.setMode_pendingRestart (m : Mode) : (s.setMode m).pendingRestart = s.pendingRestart := rfl
@[simp] theorem State.setMode_tables (m : Mode) : (s.setMode m).tables = s.tables := rfl
@[simp] theorem State.setMode_tallies (m : Mode) : (s.setMode m).tallies = s.tallies := rfl
@[simp] theorem State.setMode_fieldPort (m : Mode) : (s.setMode m).fieldPort = s.fieldPort := rfl
@[simp] theorem State.setMode_linePort (m : Mode) : (s.setMode m).linePort = s.linePort := rfl
@[simp] theorem State.setMode_heads (m : Mode) : (s.setMode m).heads = s.heads := rfl
@[simp] theorem State.setMode_relayOut (m : Mode) : (s.setMode m).relayOut = s.relayOut := rfl
@[simp] theorem State.setMode_channels (m : Mode) : (s.setMode m).channels = s.channels := rfl
@[simp] theorem State.setMode_sections (m : Mode) : (s.setMode m).sections = s.sections := rfl
@[simp] theorem State.setMode_restoreTimers (m : Mode) : (s.setMode m).restoreTimers = s.restoreTimers := rfl
@[simp] theorem State.setMode_notice (m : Mode) : (s.setMode m).notice = s.notice := rfl
@[simp] theorem State.setMode_watch (m : Mode) : (s.setMode m).watch = s.watch := rfl
@[simp] theorem State.setMode_lines (m : Mode) : (s.setMode m).lines = s.lines := rfl

/-! ### setPendingRestart -/

@[simp] theorem State.setPendingRestart_pending (b : Bool) : (s.setPendingRestart b).pending = s.pending := rfl
@[simp] theorem State.setPendingRestart_pins (b : Bool) : (s.setPendingRestart b).pins = s.pins := rfl
@[simp] theorem State.setPendingRestart_partTime (b : Bool) : (s.setPendingRestart b).partTime = s.partTime := rfl
@[simp] theorem State.setPendingRestart_mode (b : Bool) : (s.setPendingRestart b).mode = s.mode := rfl
@[simp] theorem State.setPendingRestart_pendingRestart (b : Bool) : (s.setPendingRestart b).pendingRestart = b := rfl
@[simp] theorem State.setPendingRestart_tables (b : Bool) : (s.setPendingRestart b).tables = s.tables := rfl
@[simp] theorem State.setPendingRestart_tallies (b : Bool) : (s.setPendingRestart b).tallies = s.tallies := rfl
@[simp] theorem State.setPendingRestart_fieldPort (b : Bool) : (s.setPendingRestart b).fieldPort = s.fieldPort := rfl
@[simp] theorem State.setPendingRestart_linePort (b : Bool) : (s.setPendingRestart b).linePort = s.linePort := rfl
@[simp] theorem State.setPendingRestart_heads (b : Bool) : (s.setPendingRestart b).heads = s.heads := rfl
@[simp] theorem State.setPendingRestart_relayOut (b : Bool) : (s.setPendingRestart b).relayOut = s.relayOut := rfl
@[simp] theorem State.setPendingRestart_channels (b : Bool) : (s.setPendingRestart b).channels = s.channels := rfl
@[simp] theorem State.setPendingRestart_sections (b : Bool) : (s.setPendingRestart b).sections = s.sections := rfl
@[simp] theorem State.setPendingRestart_restoreTimers (b : Bool) : (s.setPendingRestart b).restoreTimers = s.restoreTimers := rfl
@[simp] theorem State.setPendingRestart_notice (b : Bool) : (s.setPendingRestart b).notice = s.notice := rfl
@[simp] theorem State.setPendingRestart_watch (b : Bool) : (s.setPendingRestart b).watch = s.watch := rfl
@[simp] theorem State.setPendingRestart_lines (b : Bool) : (s.setPendingRestart b).lines = s.lines := rfl

/-! ### setLines -/

@[simp] theorem State.setLines_pending (v : Vector LineRun 8) : (s.setLines v).pending = s.pending := rfl
@[simp] theorem State.setLines_pins (v : Vector LineRun 8) : (s.setLines v).pins = s.pins := rfl
@[simp] theorem State.setLines_partTime (v : Vector LineRun 8) : (s.setLines v).partTime = s.partTime := rfl
@[simp] theorem State.setLines_mode (v : Vector LineRun 8) : (s.setLines v).mode = s.mode := rfl
@[simp] theorem State.setLines_pendingRestart (v : Vector LineRun 8) : (s.setLines v).pendingRestart = s.pendingRestart := rfl
@[simp] theorem State.setLines_tables (v : Vector LineRun 8) : (s.setLines v).tables = s.tables := rfl
@[simp] theorem State.setLines_tallies (v : Vector LineRun 8) : (s.setLines v).tallies = s.tallies := rfl
@[simp] theorem State.setLines_fieldPort (v : Vector LineRun 8) : (s.setLines v).fieldPort = s.fieldPort := rfl
@[simp] theorem State.setLines_linePort (v : Vector LineRun 8) : (s.setLines v).linePort = s.linePort := rfl
@[simp] theorem State.setLines_heads (v : Vector LineRun 8) : (s.setLines v).heads = s.heads := rfl
@[simp] theorem State.setLines_relayOut (v : Vector LineRun 8) : (s.setLines v).relayOut = s.relayOut := rfl
@[simp] theorem State.setLines_channels (v : Vector LineRun 8) : (s.setLines v).channels = s.channels := rfl
@[simp] theorem State.setLines_sections (v : Vector LineRun 8) : (s.setLines v).sections = s.sections := rfl
@[simp] theorem State.setLines_restoreTimers (v : Vector LineRun 8) : (s.setLines v).restoreTimers = s.restoreTimers := rfl
@[simp] theorem State.setLines_notice (v : Vector LineRun 8) : (s.setLines v).notice = s.notice := rfl
@[simp] theorem State.setLines_watch (v : Vector LineRun 8) : (s.setLines v).watch = s.watch := rfl
@[simp] theorem State.setLines_lines (v : Vector LineRun 8) : (s.setLines v).lines = v := rfl

/-! ### setPins -/

@[simp] theorem State.setPins_pending (p : Pins) : (s.setPins p).pending = s.pending := rfl
@[simp] theorem State.setPins_pins (p : Pins) : (s.setPins p).pins = p := rfl
@[simp] theorem State.setPins_partTime (p : Pins) : (s.setPins p).partTime = s.partTime := rfl
@[simp] theorem State.setPins_mode (p : Pins) : (s.setPins p).mode = s.mode := rfl
@[simp] theorem State.setPins_pendingRestart (p : Pins) : (s.setPins p).pendingRestart = s.pendingRestart := rfl
@[simp] theorem State.setPins_tables (p : Pins) : (s.setPins p).tables = s.tables := rfl
@[simp] theorem State.setPins_tallies (p : Pins) : (s.setPins p).tallies = s.tallies := rfl
@[simp] theorem State.setPins_fieldPort (p : Pins) : (s.setPins p).fieldPort = s.fieldPort := rfl
@[simp] theorem State.setPins_linePort (p : Pins) : (s.setPins p).linePort = s.linePort := rfl
@[simp] theorem State.setPins_heads (p : Pins) : (s.setPins p).heads = s.heads := rfl
@[simp] theorem State.setPins_relayOut (p : Pins) : (s.setPins p).relayOut = s.relayOut := rfl
@[simp] theorem State.setPins_channels (p : Pins) : (s.setPins p).channels = s.channels := rfl
@[simp] theorem State.setPins_sections (p : Pins) : (s.setPins p).sections = s.sections := rfl
@[simp] theorem State.setPins_restoreTimers (p : Pins) : (s.setPins p).restoreTimers = s.restoreTimers := rfl
@[simp] theorem State.setPins_notice (p : Pins) : (s.setPins p).notice = s.notice := rfl
@[simp] theorem State.setPins_watch (p : Pins) : (s.setPins p).watch = s.watch := rfl
@[simp] theorem State.setPins_lines (p : Pins) : (s.setPins p).lines = s.lines := rfl

/-! ### setPartTime -/

@[simp] theorem State.setPartTime_pending (t : Time) : (s.setPartTime t).pending = s.pending := rfl
@[simp] theorem State.setPartTime_pins (t : Time) : (s.setPartTime t).pins = s.pins := rfl
@[simp] theorem State.setPartTime_partTime (t : Time) : (s.setPartTime t).partTime = t := rfl
@[simp] theorem State.setPartTime_mode (t : Time) : (s.setPartTime t).mode = s.mode := rfl
@[simp] theorem State.setPartTime_pendingRestart (t : Time) : (s.setPartTime t).pendingRestart = s.pendingRestart := rfl
@[simp] theorem State.setPartTime_tables (t : Time) : (s.setPartTime t).tables = s.tables := rfl
@[simp] theorem State.setPartTime_tallies (t : Time) : (s.setPartTime t).tallies = s.tallies := rfl
@[simp] theorem State.setPartTime_fieldPort (t : Time) : (s.setPartTime t).fieldPort = s.fieldPort := rfl
@[simp] theorem State.setPartTime_linePort (t : Time) : (s.setPartTime t).linePort = s.linePort := rfl
@[simp] theorem State.setPartTime_heads (t : Time) : (s.setPartTime t).heads = s.heads := rfl
@[simp] theorem State.setPartTime_relayOut (t : Time) : (s.setPartTime t).relayOut = s.relayOut := rfl
@[simp] theorem State.setPartTime_channels (t : Time) : (s.setPartTime t).channels = s.channels := rfl
@[simp] theorem State.setPartTime_sections (t : Time) : (s.setPartTime t).sections = s.sections := rfl
@[simp] theorem State.setPartTime_restoreTimers (t : Time) : (s.setPartTime t).restoreTimers = s.restoreTimers := rfl
@[simp] theorem State.setPartTime_notice (t : Time) : (s.setPartTime t).notice = s.notice := rfl
@[simp] theorem State.setPartTime_watch (t : Time) : (s.setPartTime t).watch = s.watch := rfl
@[simp] theorem State.setPartTime_lines (t : Time) : (s.setPartTime t).lines = s.lines := rfl

end Sys2Proof.Machine
end

