-- ==== Sys2Proof/Laws/Tables.lean ====
section
/-! SUPPORT. Reading a table of records after a write to it, and the search of a table. -/

namespace Sys2Proof.Machine

variable {α : Type} {n : Nat}

/-- A record replaced reads as the new one; every other reads as before. -/
theorem upd_get (v : Vector α n) (i j : Fin n) (x : α) : (upd v i x)[j] = if i = j then x else v[j] := by
  simp only [upd, Fin.getElem_fin, Vector.getElem_set, Fin.ext_iff]

/-- The same at an index given as a number, which is how `simp` reads every index. -/
@[simp] theorem upd_getElem (v : Vector α n) (i : Fin n) (x : α) (j : Nat) (h : j < n) :
    (upd v i x)[j] = if i.val = j then x else v[j] := by
  simp only [upd, Vector.getElem_set]

theorem upd_get_self (v : Vector α n) (i : Fin n) (x : α) : (upd v i x)[i] = x := by rw [upd_get, if_pos rfl]

theorem upd_get_ne (v : Vector α n) {i j : Fin n} (h : i ≠ j) (x : α) : (upd v i x)[j] = v[j] := by
  rw [upd_get, if_neg h]

@[simp] theorem tab_getElem (f : Fin n → α) (j : Nat) (h : j < n) : (tab f)[j] = f ⟨j, h⟩ := by simp [tab]

theorem tab_get (f : Fin n → α) (i : Fin n) : (tab f)[i] = f i := by simp

theorem replicate_get (x : α) (i : Fin n) : (Vector.replicate n x)[i] = x := by simp

/-- Two tables that read alike at every index are one. -/
theorem table_ext (v w : Vector α n) (h : ∀ i : Fin n, v[i] = w[i]) : v = w := by
  apply Vector.ext
  intro i hi
  exact h ⟨i, hi⟩

@[simp] theorem upd_same (v : Vector α n) (i : Fin n) : upd v i v[i] = v := by
  apply table_ext
  intro j
  rw [upd_get]
  split
  · next h => rw [h]
  · rfl

/-- The lowest index with a property has it, and no lower one does. -/
theorem lowest_eq_some {p : Fin n → Bool} {i : Fin n} (h : lowest p = some i) :
    p i = true ∧ ∀ j, j < i → p j = false := by
  unfold lowest at h
  have hi := List.find?_some h
  refine ⟨hi, fun j hj => ?_⟩
  obtain ⟨_, as, bs, heq, hno⟩ := List.find?_eq_some_iff_append.mp h
  have hmem : j ∈ as ++ i :: bs := heq ▸ List.mem_finRange j
  have hsorted : (as ++ i :: bs).Pairwise (· < ·) := heq ▸ List.pairwise_lt_finRange n
  rcases List.mem_append.mp hmem with ha | hb
  · simpa using hno j ha
  · rcases List.mem_cons.mp hb with rfl | hb
    · exact absurd hj (lt_irrefl _)
    · have := (List.pairwise_cons.mp (List.pairwise_append.mp hsorted).2.1).1 j hb
      exact absurd hj (not_lt.mpr (le_of_lt this))

/-- No index has a property that no lowest index has. -/
theorem lowest_eq_none {p : Fin n → Bool} (h : lowest p = none) (i : Fin n) : p i = false := by
  have := List.find?_eq_none.mp h i (List.mem_finRange i)
  simpa using this

/-- What a fold leaves alone at every element it leaves alone over the whole list. -/
theorem foldl_keeps {β γ δ : Type} (f : β → γ) (g : β → δ → β) (h : ∀ b d, f (g b d) = f b) (l : List δ) (b : β) :
    f (l.foldl g b) = f b := by
  induction l generalizing b with
  | nil => rfl
  | cons d l ih => rw [List.foldl_cons, ih, h]

/-- A property every element of a fold keeps holds of its end. -/
theorem foldl_preserves {β δ : Type} (P : β → Prop) (g : β → δ → β) (l : List δ) (h : ∀ b d, d ∈ l → P b → P (g b d))
    (b : β) (hb : P b) : P (l.foldl g b) := by
  induction l generalizing b with
  | nil => exact hb
  | cons d l ih =>
    exact ih (fun b e he => h b e (List.mem_cons_of_mem _ he)) (g b d) (h b d List.mem_cons_self hb)

end Sys2Proof.Machine
end

