-- ==== Sys2Proof/Laws/Frames.lean ====
section
/-! SUPPORT. What each operation on the track leaves alone, said once per operation: an operation on sections
keeps `State.butSections`, one on heads, relay-out or channels keeps `State.butTrack`. -/

namespace Sys2Proof.Machine

/-! ## Sections -/

@[simp] theorem State.setSection_butSections (s : State) (k : Fin 24) (r : SecRun) :
    (s.setSection k r).butSections = s.butSections := rfl

@[simp] theorem State.setOwed_butSections (s : State) (k : Fin 24) (b : Bool) :
    (s.setOwed k b).butSections = s.butSections := rfl

@[simp] theorem State.setRestoreTimer_butSections (s : State) (k : Fin 24) (t : Timer) :
    (s.setRestoreTimer k t).butSections = s.butSections := rfl

@[simp] theorem State.judgeLatches_butSections (s : State) : s.judgeLatches.butSections = s.butSections := by
  simp only [State.judgeLatches, State.butSections, State.setLines, State.mk.injEq, true_and]
  apply table_ext
  intro l
  simp only [tab_get]
  split <;> rfl

@[simp] theorem State.putSection_butSections (s : State) (k : Fin 24) (r : SecRun) :
    (s.putSection k r).butSections = s.butSections := by
  unfold State.putSection
  dsimp only
  split <;> split <;> split <;> simp

@[simp] theorem State.disturb_butSections (s : State) (k : Fin 24) (c : Cause) (src : Option (Fin 40)) :
    (s.disturb k c src).butSections = s.butSections := by simp [State.disturb]

@[simp] theorem State.activityAt_butSections (s : State) (n : Fin 40) (k : Fin 24) :
    (s.activityAt n k).butSections = s.butSections := by simp [State.activityAt]

@[simp] theorem State.passageAt_butSections (s : State) (n : Fin 40) (k : Fin 24) (b : Bool) :
    (s.passageAt n k b).butSections = s.butSections := by
  unfold State.passageAt
  dsimp only
  split
  · split <;> simp
  · simp

@[simp] theorem State.passage_butSections (s : State) (n : Fin 40) (d : Direction) :
    (s.passage n d).butSections = s.butSections := by
  unfold State.passage
  exact foldl_keeps State.butSections _ (fun _ _ => by simp) _ _

@[simp] theorem State.activity_butSections (s : State) (n : Fin 40) : (s.activity n).butSections = s.butSections := by
  unfold State.activity
  exact foldl_keeps State.butSections _ (fun _ _ => by simp) _ _

@[simp] theorem State.judgeRestore_butSections (s : State) (k : Fin 24) :
    (s.judgeRestore k).butSections = s.butSections := by
  unfold State.judgeRestore
  split <;> simp

@[simp] theorem State.judgeWarning_butSections (s : State) (k : Fin 24) :
    (s.judgeWarning k).butSections = s.butSections := by simp [State.judgeWarning]

@[simp] theorem State.sourceEventAt_butSections (s : State) (n : Fin 40) (e : SourceEvent) (k : Fin 24) :
    (s.sourceEventAt n e k).butSections = s.butSections := by
  unfold State.sourceEventAt
  dsimp only
  split <;> simp

@[simp] theorem State.deliver_butSections (s : State) (n : Fin 40) (e : SourceEvent) :
    (s.deliver n e).butSections = s.butSections := by
  unfold State.deliver
  exact foldl_keeps State.butSections _ (fun _ _ => by simp) _ _

@[simp] theorem State.deliverOpt_butSections (s : State) (n : Fin 40) (e : Option SourceEvent) :
    (s.deliverOpt n e).butSections = s.butSections := by
  unfold State.deliverOpt
  split <;> simp

@[simp] theorem State.restoreExpiry_butSections (s : State) (k : Fin 24) :
    (s.restoreExpiry k).butSections = s.butSections := by
  unfold State.restoreExpiry
  split <;> simp

/-! ## The track -/

/-- What keeps everything but the sections keeps everything but the track. -/
theorem State.butTrack_of_butSections {s t : State} (h : t.butSections = s.butSections) : t.butTrack = s.butTrack :=
  congrArg (fun u : State => ({ u with
    heads := Vector.replicate 32 .reset, relayOut := Vector.replicate 32 .reset,
    channels := Vector.replicate 8 .reset } : State)) h

@[simp] theorem State.setHead_butTrack (s : State) (k : Fin 32) (h : HeadRun) : (s.setHead k h).butTrack = s.butTrack := rfl

@[simp] theorem State.setRelayOut_butTrack (s : State) (k : Fin 32) (r : RelayOut) :
    (s.setRelayOut k r).butTrack = s.butTrack := rfl

@[simp] theorem State.setChannel_butTrack (s : State) (c : Fin 8) (r : Channel) :
    (s.setChannel c r).butTrack = s.butTrack := rfl

@[simp] theorem State.setRestoreTimer_butTrack (s : State) (k : Fin 24) (t : Timer) :
    (s.setRestoreTimer k t).butTrack = s.butTrack := rfl

@[simp] theorem State.putSection_butTrack (s : State) (k : Fin 24) (r : SecRun) :
    (s.putSection k r).butTrack = s.butTrack := State.butTrack_of_butSections (by simp)

@[simp] theorem State.passage_butTrack (s : State) (n : Fin 40) (d : Direction) :
    (s.passage n d).butTrack = s.butTrack := State.butTrack_of_butSections (by simp)

@[simp] theorem State.activity_butTrack (s : State) (n : Fin 40) : (s.activity n).butTrack = s.butTrack :=
  State.butTrack_of_butSections (by simp)

@[simp] theorem State.judgeRestore_butTrack (s : State) (k : Fin 24) : (s.judgeRestore k).butTrack = s.butTrack :=
  State.butTrack_of_butSections (by simp)

@[simp] theorem State.deliver_butTrack (s : State) (n : Fin 40) (e : SourceEvent) :
    (s.deliver n e).butTrack = s.butTrack := State.butTrack_of_butSections (by simp)

@[simp] theorem State.deliverOpt_butTrack (s : State) (n : Fin 40) (e : Option SourceEvent) :
    (s.deliverOpt n e).butTrack = s.butTrack := State.butTrack_of_butSections (by simp)

@[simp] theorem State.noteStatus_butTrack (s : State) (k : Fin 32) (b : OriginStatus) :
    (s.noteStatus k b).butTrack = s.butTrack := by
  unfold State.noteStatus
  split <;> simp

@[simp] theorem State.relayPassage_butTrack (s : State) (k : Fin 32) (p : Passage) :
    (s.relayPassage k p).butTrack = s.butTrack := by
  unfold State.relayPassage
  split <;> simp

@[simp] theorem PassageRecord.relayed_dir (p : PassageRecord) : p.relayed.dir = p.dir := rfl
@[simp] theorem PassageRecord.relayed_speed (p : PassageRecord) : p.relayed.speed = p.speed := rfl
@[simp] theorem State.deliverPassage_none (s : State) : s.deliverPassage none = s := rfl
@[simp] theorem State.deliverPassage_some (s : State) (p : PassageRecord) :
    s.deliverPassage (some p) = (s.passage (headSource p.source) p.dir).relayPassage p.source p.relayed := rfl

@[simp] theorem State.deliverPassage_butTrack (s : State) (p : Option PassageRecord) :
    (s.deliverPassage p).butTrack = s.butTrack := by
  unfold State.deliverPassage
  split <;> simp

@[simp] theorem State.commitHead_butTrack (s : State) (k : Fin 32) (h : HeadRun) :
    (s.commitHead k h).butTrack = s.butTrack := by
  unfold State.commitHead
  dsimp only
  split <;> simp

@[simp] theorem State.lifeFrame_butTrack (s : State) (k : Fin 32) (f : LifeFields) :
    (s.lifeFrame k f).butTrack = s.butTrack := by simp [State.lifeFrame]

@[simp] theorem State.edges_butTrack (s : State) (k : Fin 32) (a : Anchor) (b : Option (Time × Half)) (es : List EdgeOperand) :
    (s.edges k a b es).butTrack = s.butTrack := by
  induction es generalizing s b with
  | nil => rfl
  | cons e es ih =>
    unfold State.edges
    dsimp only
    split
    · simp
    · rw [ih]; simp

@[simp] theorem State.wheelAccepted_butTrack (s : State) (k : Fin 32) (q fl : Byte) (es : List EdgeOperand) :
    (s.wheelAccepted k q fl es).butTrack = s.butTrack := by
  unfold State.wheelAccepted
  dsimp only
  split
  · simp
  · split
    · simp
    · split <;> simp

@[simp] theorem State.wheelFrame_butTrack (s : State) (k : Fin 32) (q fl : Byte) (es : List EdgeOperand) :
    (s.wheelFrame k q fl es).butTrack = s.butTrack := by
  unfold State.wheelFrame
  split <;> first | rfl | (split <;> simp)

@[simp] theorem State.headExpiry_butTrack (s : State) (k : Fin 32) : (s.headExpiry k).butTrack = s.butTrack := by
  unfold State.headExpiry
  dsimp only
  split <;> first | rfl | (split <;> simp)

@[simp] theorem State.testHead_butTrack (s : State) (k : Fin 32) : (s.testHead k).butTrack = s.butTrack := by
  unfold State.testHead
  split <;> simp

@[simp] theorem State.commitChannel_butTrack (s : State) (c : Fin 8) (r : Channel) :
    (s.commitChannel c r).butTrack = s.butTrack := by simp [State.commitChannel]

@[simp] theorem State.channelFrame_butTrack (s : State) (c : Fin 8) (q : Byte) (st : OriginStatus) (ps : List PassageOperand) :
    (s.channelFrame c q st ps).butTrack = s.butTrack := by
  unfold State.channelFrame
  dsimp only
  split
  · rw [foldl_keeps State.butTrack _ (fun _ _ => by simp)]; simp
  · simp

@[simp] theorem State.channelExpiry_butTrack (s : State) (c : Fin 8) : (s.channelExpiry c).butTrack = s.butTrack := by
  unfold State.channelExpiry
  dsimp only
  split <;> first | rfl | (split <;> simp)

@[simp] theorem State.readmitChannel_butTrack (s : State) (c : Fin 8) : (s.readmitChannel c).butTrack = s.butTrack := by
  simp [State.readmitChannel]

@[simp] theorem State.readmitHead_butTrack (s : State) (k : Fin 32) : (s.readmitHead k).butTrack = s.butTrack := by
  simp [State.readmitHead]

@[simp] theorem State.readmitBroken_butTrack (s : State) (n : Fin 40) : (s.readmitBroken n).butTrack = s.butTrack := by
  unfold State.readmitBroken
  split <;> first | rfl | (split <;> simp)

@[simp] theorem State.relayExpiry_butTrack (s : State) (k : Fin 32) : (s.relayExpiry k).butTrack = s.butTrack := by
  unfold State.relayExpiry
  split <;> simp

@[simp] theorem State.acceptRestore_butTrack (s : State) (kind : RestoreKind) (k : Fin 24) :
    (s.acceptRestore kind k).butTrack = s.butTrack := by
  unfold State.acceptRestore
  dsimp only
  rw [State.judgeRestore_butTrack, foldl_keeps State.butTrack _ (fun _ _ => by simp)]
  simp

@[simp] theorem State.localRestore_butTrack (s : State) (k : Fin 24) : (s.localRestore k).butTrack = s.butTrack := by
  unfold State.localRestore
  split <;> simp

@[simp] theorem State.testHeads_butTrack (s : State) (f : Frame) : (s.testHeads f).butTrack = s.butTrack := by
  unfold State.testHeads
  split
  · exact foldl_keeps State.butTrack _ (fun _ _ => by simp) _ _
  · rfl

/-! ## Reading a kept field -/

/-- The fields a section event keeps. -/
theorem State.fields_of_butSections {s t : State} (h : t.butSections = s.butSections) :
    t.pending = s.pending ∧ t.pins = s.pins ∧ t.partTime = s.partTime ∧ t.mode = s.mode ∧
      t.pendingRestart = s.pendingRestart ∧ t.tables = s.tables ∧ t.tallies = s.tallies ∧ t.fieldPort = s.fieldPort ∧
      t.linePort = s.linePort ∧ t.heads = s.heads ∧ t.relayOut = s.relayOut ∧ t.channels = s.channels ∧ t.watch = s.watch :=
  ⟨(congrArg State.pending h :), (congrArg State.pins h :), (congrArg State.partTime h :), (congrArg State.mode h :),
    (congrArg State.pendingRestart h :), (congrArg State.tables h :), (congrArg State.tallies h :), (congrArg State.fieldPort h :),
    (congrArg State.linePort h :), (congrArg State.heads h :), (congrArg State.relayOut h :), (congrArg State.channels h :),
    (congrArg State.watch h :)⟩

/-- The fields a track event keeps. -/
theorem State.fields_of_butTrack {s t : State} (h : t.butTrack = s.butTrack) :
    t.pending = s.pending ∧ t.pins = s.pins ∧ t.partTime = s.partTime ∧ t.mode = s.mode ∧
      t.pendingRestart = s.pendingRestart ∧ t.tables = s.tables ∧ t.tallies = s.tallies ∧ t.fieldPort = s.fieldPort ∧
      t.linePort = s.linePort ∧ t.watch = s.watch :=
  ⟨(congrArg State.pending h :), (congrArg State.pins h :), (congrArg State.partTime h :), (congrArg State.mode h :),
    (congrArg State.pendingRestart h :), (congrArg State.tables h :), (congrArg State.tallies h :), (congrArg State.fieldPort h :),
    (congrArg State.linePort h :), (congrArg State.watch h :)⟩

/-- The notice unit's own fields, kept by a track event. -/
theorem State.notice_of_butTrack {s t : State} (h : t.butTrack = s.butTrack) :
    t.notice.hold = s.notice.hold ∧ t.notice.roundTimer = s.notice.roundTimer ∧ t.notice.roundReady = s.notice.roundReady :=
  ⟨(congrArg (fun u => u.notice.hold) h :), (congrArg (fun u => u.notice.roundTimer) h :), (congrArg (fun u => u.notice.roundReady) h :)⟩

/-- A local line's own items, kept by a track event. -/
theorem State.line_of_butTrack {s t : State} (h : t.butTrack = s.butTrack) (l : Fin 8) :
    t.lines[l].board = s.lines[l].board ∧ t.lines[l].activation = s.lines[l].activation ∧
      t.lines[l].timer = s.lines[l].timer := by
  have h' : ({ t.lines[l] with latch := false } : LineRun) = { s.lines[l] with latch := false } := by
    have := congrArg (fun u : State => u.lines[l]) h
    simpa [State.butTrack, State.butSections] using this
  exact ⟨(congrArg LineRun.board h' :), (congrArg LineRun.activation h' :), (congrArg LineRun.timer h' :)⟩

end Sys2Proof.Machine
end

