-- ==== Sys2Proof/Laws/Fields.lean ====
section
/-! SUPPORT. The frames of Laws/Frames.lean read field by field: what each operation on the track keeps. -/

namespace Sys2Proof.Machine

/-! ### One field of two states that agree -/

theorem State.pending_of_butSections {s t : State} (h : t.butSections = s.butSections) : t.pending = s.pending := (congrArg State.pending h :)
theorem State.pins_of_butSections {s t : State} (h : t.butSections = s.butSections) : t.pins = s.pins := (congrArg State.pins h :)
theorem State.partTime_of_butSections {s t : State} (h : t.butSections = s.butSections) : t.partTime = s.partTime := (congrArg State.partTime h :)
theorem State.mode_of_butSections {s t : State} (h : t.butSections = s.butSections) : t.mode = s.mode := (congrArg State.mode h :)
theorem State.pendingRestart_of_butSections {s t : State} (h : t.butSections = s.butSections) : t.pendingRestart = s.pendingRestart := (congrArg State.pendingRestart h :)
theorem State.tables_of_butSections {s t : State} (h : t.butSections = s.butSections) : t.tables = s.tables := (congrArg State.tables h :)
theorem State.tallies_of_butSections {s t : State} (h : t.butSections = s.butSections) : t.tallies = s.tallies := (congrArg State.tallies h :)
theorem State.fieldPort_of_butSections {s t : State} (h : t.butSections = s.butSections) : t.fieldPort = s.fieldPort := (congrArg State.fieldPort h :)
theorem State.linePort_of_butSections {s t : State} (h : t.butSections = s.butSections) : t.linePort = s.linePort := (congrArg State.linePort h :)
theorem State.heads_of_butSections {s t : State} (h : t.butSections = s.butSections) : t.heads = s.heads := (congrArg State.heads h :)
theorem State.relayOut_of_butSections {s t : State} (h : t.butSections = s.butSections) : t.relayOut = s.relayOut := (congrArg State.relayOut h :)
theorem State.channels_of_butSections {s t : State} (h : t.butSections = s.butSections) : t.channels = s.channels := (congrArg State.channels h :)
theorem State.watch_of_butSections {s t : State} (h : t.butSections = s.butSections) : t.watch = s.watch := (congrArg State.watch h :)

theorem State.pending_of_butTrack {s t : State} (h : t.butTrack = s.butTrack) : t.pending = s.pending := (congrArg State.pending h :)
theorem State.pins_of_butTrack {s t : State} (h : t.butTrack = s.butTrack) : t.pins = s.pins := (congrArg State.pins h :)
theorem State.partTime_of_butTrack {s t : State} (h : t.butTrack = s.butTrack) : t.partTime = s.partTime := (congrArg State.partTime h :)
theorem State.mode_of_butTrack {s t : State} (h : t.butTrack = s.butTrack) : t.mode = s.mode := (congrArg State.mode h :)
theorem State.pendingRestart_of_butTrack {s t : State} (h : t.butTrack = s.butTrack) : t.pendingRestart = s.pendingRestart := (congrArg State.pendingRestart h :)
theorem State.tables_of_butTrack {s t : State} (h : t.butTrack = s.butTrack) : t.tables = s.tables := (congrArg State.tables h :)
theorem State.tallies_of_butTrack {s t : State} (h : t.butTrack = s.butTrack) : t.tallies = s.tallies := (congrArg State.tallies h :)
theorem State.fieldPort_of_butTrack {s t : State} (h : t.butTrack = s.butTrack) : t.fieldPort = s.fieldPort := (congrArg State.fieldPort h :)
theorem State.linePort_of_butTrack {s t : State} (h : t.butTrack = s.butTrack) : t.linePort = s.linePort := (congrArg State.linePort h :)
theorem State.watch_of_butTrack {s t : State} (h : t.butTrack = s.butTrack) : t.watch = s.watch := (congrArg State.watch h :)

variable (s : State)

/-! ### judgeLatches -/

@[simp] theorem State.judgeLatches_pending : (s.judgeLatches).pending = s.pending :=
  State.pending_of_butSections (State.judgeLatches_butSections s)
@[simp] theorem State.judgeLatches_pins : (s.judgeLatches).pins = s.pins :=
  State.pins_of_butSections (State.judgeLatches_butSections s)
@[simp] theorem State.judgeLatches_partTime : (s.judgeLatches).partTime = s.partTime :=
  State.partTime_of_butSections (State.judgeLatches_butSections s)
@[simp] theorem State.judgeLatches_mode : (s.judgeLatches).mode = s.mode :=
  State.mode_of_butSections (State.judgeLatches_butSections s)
@[simp] theorem State.judgeLatches_pendingRestart : (s.judgeLatches).pendingRestart = s.pendingRestart :=
  State.pendingRestart_of_butSections (State.judgeLatches_butSections s)
@[simp] theorem State.judgeLatches_tables : (s.judgeLatches).tables = s.tables :=
  State.tables_of_butSections (State.judgeLatches_butSections s)
@[simp] theorem State.judgeLatches_tallies : (s.judgeLatches).tallies = s.tallies :=
  State.tallies_of_butSections (State.judgeLatches_butSections s)
@[simp] theorem State.judgeLatches_fieldPort : (s.judgeLatches).fieldPort = s.fieldPort :=
  State.fieldPort_of_butSections (State.judgeLatches_butSections s)
@[simp] theorem State.judgeLatches_linePort : (s.judgeLatches).linePort = s.linePort :=
  State.linePort_of_butSections (State.judgeLatches_butSections s)
@[simp] theorem State.judgeLatches_heads : (s.judgeLatches).heads = s.heads :=
  State.heads_of_butSections (State.judgeLatches_butSections s)
@[simp] theorem State.judgeLatches_relayOut : (s.judgeLatches).relayOut = s.relayOut :=
  State.relayOut_of_butSections (State.judgeLatches_butSections s)
@[simp] theorem State.judgeLatches_channels : (s.judgeLatches).channels = s.channels :=
  State.channels_of_butSections (State.judgeLatches_butSections s)
@[simp] theorem State.judgeLatches_watch : (s.judgeLatches).watch = s.watch :=
  State.watch_of_butSections (State.judgeLatches_butSections s)

/-! ### putSection -/

@[simp] theorem State.putSection_pending (k : Fin 24) (r : SecRun) : (s.putSection k r).pending = s.pending :=
  State.pending_of_butSections (State.putSection_butSections s _ _)
@[simp] theorem State.putSection_pins (k : Fin 24) (r : SecRun) : (s.putSection k r).pins = s.pins :=
  State.pins_of_butSections (State.putSection_butSections s _ _)
@[simp] theorem State.putSection_partTime (k : Fin 24) (r : SecRun) : (s.putSection k r).partTime = s.partTime :=
  State.partTime_of_butSections (State.putSection_butSections s _ _)
@[simp] theorem State.putSection_mode (k : Fin 24) (r : SecRun) : (s.putSection k r).mode = s.mode :=
  State.mode_of_butSections (State.putSection_butSections s _ _)
@[simp] theorem State.putSection_pendingRestart (k : Fin 24) (r : SecRun) : (s.putSection k r).pendingRestart = s.pendingRestart :=
  State.pendingRestart_of_butSections (State.putSection_butSections s _ _)
@[simp] theorem State.putSection_tables (k : Fin 24) (r : SecRun) : (s.putSection k r).tables = s.tables :=
  State.tables_of_butSections (State.putSection_butSections s _ _)
@[simp] theorem State.putSection_tallies (k : Fin 24) (r : SecRun) : (s.putSection k r).tallies = s.tallies :=
  State.tallies_of_butSections (State.putSection_butSections s _ _)
@[simp] theorem State.putSection_fieldPort (k : Fin 24) (r : SecRun) : (s.putSection k r).fieldPort = s.fieldPort :=
  State.fieldPort_of_butSections (State.putSection_butSections s _ _)
@[simp] theorem State.putSection_linePort (k : Fin 24) (r : SecRun) : (s.putSection k r).linePort = s.linePort :=
  State.linePort_of_butSections (State.putSection_butSections s _ _)
@[simp] theorem State.putSection_heads (k : Fin 24) (r : SecRun) : (s.putSection k r).heads = s.heads :=
  State.heads_of_butSections (State.putSection_butSections s _ _)
@[simp] theorem State.putSection_relayOut (k : Fin 24) (r : SecRun) : (s.putSection k r).relayOut = s.relayOut :=
  State.relayOut_of_butSections (State.putSection_butSections s _ _)
@[simp] theorem State.putSection_channels (k : Fin 24) (r : SecRun) : (s.putSection k r).channels = s.channels :=
  State.channels_of_butSections (State.putSection_butSections s _ _)
@[simp] theorem State.putSection_watch (k : Fin 24) (r : SecRun) : (s.putSection k r).watch = s.watch :=
  State.watch_of_butSections (State.putSection_butSections s _ _)

/-! ### disturb -/

@[simp] theorem State.disturb_pending (k : Fin 24) (c : Cause) (x : Option (Fin 40)) : (s.disturb k c x).pending = s.pending :=
  State.pending_of_butSections (State.disturb_butSections s _ _ _)
@[simp] theorem State.disturb_pins (k : Fin 24) (c : Cause) (x : Option (Fin 40)) : (s.disturb k c x).pins = s.pins :=
  State.pins_of_butSections (State.disturb_butSections s _ _ _)
@[simp] theorem State.disturb_partTime (k : Fin 24) (c : Cause) (x : Option (Fin 40)) : (s.disturb k c x).partTime = s.partTime :=
  State.partTime_of_butSections (State.disturb_butSections s _ _ _)
@[simp] theorem State.disturb_mode (k : Fin 24) (c : Cause) (x : Option (Fin 40)) : (s.disturb k c x).mode = s.mode :=
  State.mode_of_butSections (State.disturb_butSections s _ _ _)
@[simp] theorem State.disturb_pendingRestart (k : Fin 24) (c : Cause) (x : Option (Fin 40)) : (s.disturb k c x).pendingRestart = s.pendingRestart :=
  State.pendingRestart_of_butSections (State.disturb_butSections s _ _ _)
@[simp] theorem State.disturb_tables (k : Fin 24) (c : Cause) (x : Option (Fin 40)) : (s.disturb k c x).tables = s.tables :=
  State.tables_of_butSections (State.disturb_butSections s _ _ _)
@[simp] theorem State.disturb_tallies (k : Fin 24) (c : Cause) (x : Option (Fin 40)) : (s.disturb k c x).tallies = s.tallies :=
  State.tallies_of_butSections (State.disturb_butSections s _ _ _)
@[simp] theorem State.disturb_fieldPort (k : Fin 24) (c : Cause) (x : Option (Fin 40)) : (s.disturb k c x).fieldPort = s.fieldPort :=
  State.fieldPort_of_butSections (State.disturb_butSections s _ _ _)
@[simp] theorem State.disturb_linePort (k : Fin 24) (c : Cause) (x : Option (Fin 40)) : (s.disturb k c x).linePort = s.linePort :=
  State.linePort_of_butSections (State.disturb_butSections s _ _ _)
@[simp] theorem State.disturb_heads (k : Fin 24) (c : Cause) (x : Option (Fin 40)) : (s.disturb k c x).heads = s.heads :=
  State.heads_of_butSections (State.disturb_butSections s _ _ _)
@[simp] theorem State.disturb_relayOut (k : Fin 24) (c : Cause) (x : Option (Fin 40)) : (s.disturb k c x).relayOut = s.relayOut :=
  State.relayOut_of_butSections (State.disturb_butSections s _ _ _)
@[simp] theorem State.disturb_channels (k : Fin 24) (c : Cause) (x : Option (Fin 40)) : (s.disturb k c x).channels = s.channels :=
  State.channels_of_butSections (State.disturb_butSections s _ _ _)
@[simp] theorem State.disturb_watch (k : Fin 24) (c : Cause) (x : Option (Fin 40)) : (s.disturb k c x).watch = s.watch :=
  State.watch_of_butSections (State.disturb_butSections s _ _ _)

/-! ### activityAt -/

@[simp] theorem State.activityAt_pending (n : Fin 40) (k : Fin 24) : (s.activityAt n k).pending = s.pending :=
  State.pending_of_butSections (State.activityAt_butSections s _ _)
@[simp] theorem State.activityAt_pins (n : Fin 40) (k : Fin 24) : (s.activityAt n k).pins = s.pins :=
  State.pins_of_butSections (State.activityAt_butSections s _ _)
@[simp] theorem State.activityAt_partTime (n : Fin 40) (k : Fin 24) : (s.activityAt n k).partTime = s.partTime :=
  State.partTime_of_butSections (State.activityAt_butSections s _ _)
@[simp] theorem State.activityAt_mode (n : Fin 40) (k : Fin 24) : (s.activityAt n k).mode = s.mode :=
  State.mode_of_butSections (State.activityAt_butSections s _ _)
@[simp] theorem State.activityAt_pendingRestart (n : Fin 40) (k : Fin 24) : (s.activityAt n k).pendingRestart = s.pendingRestart :=
  State.pendingRestart_of_butSections (State.activityAt_butSections s _ _)
@[simp] theorem State.activityAt_tables (n : Fin 40) (k : Fin 24) : (s.activityAt n k).tables = s.tables :=
  State.tables_of_butSections (State.activityAt_butSections s _ _)
@[simp] theorem State.activityAt_tallies (n : Fin 40) (k : Fin 24) : (s.activityAt n k).tallies = s.tallies :=
  State.tallies_of_butSections (State.activityAt_butSections s _ _)
@[simp] theorem State.activityAt_fieldPort (n : Fin 40) (k : Fin 24) : (s.activityAt n k).fieldPort = s.fieldPort :=
  State.fieldPort_of_butSections (State.activityAt_butSections s _ _)
@[simp] theorem State.activityAt_linePort (n : Fin 40) (k : Fin 24) : (s.activityAt n k).linePort = s.linePort :=
  State.linePort_of_butSections (State.activityAt_butSections s _ _)
@[simp] theorem State.activityAt_heads (n : Fin 40) (k : Fin 24) : (s.activityAt n k).heads = s.heads :=
  State.heads_of_butSections (State.activityAt_butSections s _ _)
@[simp] theorem State.activityAt_relayOut (n : Fin 40) (k : Fin 24) : (s.activityAt n k).relayOut = s.relayOut :=
  State.relayOut_of_butSections (State.activityAt_butSections s _ _)
@[simp] theorem State.activityAt_channels (n : Fin 40) (k : Fin 24) : (s.activityAt n k).channels = s.channels :=
  State.channels_of_butSections (State.activityAt_butSections s _ _)
@[simp] theorem State.activityAt_watch (n : Fin 40) (k : Fin 24) : (s.activityAt n k).watch = s.watch :=
  State.watch_of_butSections (State.activityAt_butSections s _ _)

/-! ### passageAt -/

@[simp] theorem State.passageAt_pending (n : Fin 40) (k : Fin 24) (b : Bool) : (s.passageAt n k b).pending = s.pending :=
  State.pending_of_butSections (State.passageAt_butSections s _ _ _)
@[simp] theorem State.passageAt_pins (n : Fin 40) (k : Fin 24) (b : Bool) : (s.passageAt n k b).pins = s.pins :=
  State.pins_of_butSections (State.passageAt_butSections s _ _ _)
@[simp] theorem State.passageAt_partTime (n : Fin 40) (k : Fin 24) (b : Bool) : (s.passageAt n k b).partTime = s.partTime :=
  State.partTime_of_butSections (State.passageAt_butSections s _ _ _)
@[simp] theorem State.passageAt_mode (n : Fin 40) (k : Fin 24) (b : Bool) : (s.passageAt n k b).mode = s.mode :=
  State.mode_of_butSections (State.passageAt_butSections s _ _ _)
@[simp] theorem State.passageAt_pendingRestart (n : Fin 40) (k : Fin 24) (b : Bool) : (s.passageAt n k b).pendingRestart = s.pendingRestart :=
  State.pendingRestart_of_butSections (State.passageAt_butSections s _ _ _)
@[simp] theorem State.passageAt_tables (n : Fin 40) (k : Fin 24) (b : Bool) : (s.passageAt n k b).tables = s.tables :=
  State.tables_of_butSections (State.passageAt_butSections s _ _ _)
@[simp] theorem State.passageAt_tallies (n : Fin 40) (k : Fin 24) (b : Bool) : (s.passageAt n k b).tallies = s.tallies :=
  State.tallies_of_butSections (State.passageAt_butSections s _ _ _)
@[simp] theorem State.passageAt_fieldPort (n : Fin 40) (k : Fin 24) (b : Bool) : (s.passageAt n k b).fieldPort = s.fieldPort :=
  State.fieldPort_of_butSections (State.passageAt_butSections s _ _ _)
@[simp] theorem State.passageAt_linePort (n : Fin 40) (k : Fin 24) (b : Bool) : (s.passageAt n k b).linePort = s.linePort :=
  State.linePort_of_butSections (State.passageAt_butSections s _ _ _)
@[simp] theorem State.passageAt_heads (n : Fin 40) (k : Fin 24) (b : Bool) : (s.passageAt n k b).heads = s.heads :=
  State.heads_of_butSections (State.passageAt_butSections s _ _ _)
@[simp] theorem State.passageAt_relayOut (n : Fin 40) (k : Fin 24) (b : Bool) : (s.passageAt n k b).relayOut = s.relayOut :=
  State.relayOut_of_butSections (State.passageAt_butSections s _ _ _)
@[simp] theorem State.passageAt_channels (n : Fin 40) (k : Fin 24) (b : Bool) : (s.passageAt n k b).channels = s.channels :=
  State.channels_of_butSections (State.passageAt_butSections s _ _ _)
@[simp] theorem State.passageAt_watch (n : Fin 40) (k : Fin 24) (b : Bool) : (s.passageAt n k b).watch = s.watch :=
  State.watch_of_butSections (State.passageAt_butSections s _ _ _)

/-! ### passage -/

@[simp] theorem State.passage_pending (n : Fin 40) (d : Direction) : (s.passage n d).pending = s.pending :=
  State.pending_of_butSections (State.passage_butSections s _ _)
@[simp] theorem State.passage_pins (n : Fin 40) (d : Direction) : (s.passage n d).pins = s.pins :=
  State.pins_of_butSections (State.passage_butSections s _ _)
@[simp] theorem State.passage_partTime (n : Fin 40) (d : Direction) : (s.passage n d).partTime = s.partTime :=
  State.partTime_of_butSections (State.passage_butSections s _ _)
@[simp] theorem State.passage_mode (n : Fin 40) (d : Direction) : (s.passage n d).mode = s.mode :=
  State.mode_of_butSections (State.passage_butSections s _ _)
@[simp] theorem State.passage_pendingRestart (n : Fin 40) (d : Direction) : (s.passage n d).pendingRestart = s.pendingRestart :=
  State.pendingRestart_of_butSections (State.passage_butSections s _ _)
@[simp] theorem State.passage_tables (n : Fin 40) (d : Direction) : (s.passage n d).tables = s.tables :=
  State.tables_of_butSections (State.passage_butSections s _ _)
@[simp] theorem State.passage_tallies (n : Fin 40) (d : Direction) : (s.passage n d).tallies = s.tallies :=
  State.tallies_of_butSections (State.passage_butSections s _ _)
@[simp] theorem State.passage_fieldPort (n : Fin 40) (d : Direction) : (s.passage n d).fieldPort = s.fieldPort :=
  State.fieldPort_of_butSections (State.passage_butSections s _ _)
@[simp] theorem State.passage_linePort (n : Fin 40) (d : Direction) : (s.passage n d).linePort = s.linePort :=
  State.linePort_of_butSections (State.passage_butSections s _ _)
@[simp] theorem State.passage_heads (n : Fin 40) (d : Direction) : (s.passage n d).heads = s.heads :=
  State.heads_of_butSections (State.passage_butSections s _ _)
@[simp] theorem State.passage_relayOut (n : Fin 40) (d : Direction) : (s.passage n d).relayOut = s.relayOut :=
  State.relayOut_of_butSections (State.passage_butSections s _ _)
@[simp] theorem State.passage_channels (n : Fin 40) (d : Direction) : (s.passage n d).channels = s.channels :=
  State.channels_of_butSections (State.passage_butSections s _ _)
@[simp] theorem State.passage_watch (n : Fin 40) (d : Direction) : (s.passage n d).watch = s.watch :=
  State.watch_of_butSections (State.passage_butSections s _ _)

/-! ### activity -/

@[simp] theorem State.activity_pending (n : Fin 40) : (s.activity n).pending = s.pending :=
  State.pending_of_butSections (State.activity_butSections s _)
@[simp] theorem State.activity_pins (n : Fin 40) : (s.activity n).pins = s.pins :=
  State.pins_of_butSections (State.activity_butSections s _)
@[simp] theorem State.activity_partTime (n : Fin 40) : (s.activity n).partTime = s.partTime :=
  State.partTime_of_butSections (State.activity_butSections s _)
@[simp] theorem State.activity_mode (n : Fin 40) : (s.activity n).mode = s.mode :=
  State.mode_of_butSections (State.activity_butSections s _)
@[simp] theorem State.activity_pendingRestart (n : Fin 40) : (s.activity n).pendingRestart = s.pendingRestart :=
  State.pendingRestart_of_butSections (State.activity_butSections s _)
@[simp] theorem State.activity_tables (n : Fin 40) : (s.activity n).tables = s.tables :=
  State.tables_of_butSections (State.activity_butSections s _)
@[simp] theorem State.activity_tallies (n : Fin 40) : (s.activity n).tallies = s.tallies :=
  State.tallies_of_butSections (State.activity_butSections s _)
@[simp] theorem State.activity_fieldPort (n : Fin 40) : (s.activity n).fieldPort = s.fieldPort :=
  State.fieldPort_of_butSections (State.activity_butSections s _)
@[simp] theorem State.activity_linePort (n : Fin 40) : (s.activity n).linePort = s.linePort :=
  State.linePort_of_butSections (State.activity_butSections s _)
@[simp] theorem State.activity_heads (n : Fin 40) : (s.activity n).heads = s.heads :=
  State.heads_of_butSections (State.activity_butSections s _)
@[simp] theorem State.activity_relayOut (n : Fin 40) : (s.activity n).relayOut = s.relayOut :=
  State.relayOut_of_butSections (State.activity_butSections s _)
@[simp] theorem State.activity_channels (n : Fin 40) : (s.activity n).channels = s.channels :=
  State.channels_of_butSections (State.activity_butSections s _)
@[simp] theorem State.activity_watch (n : Fin 40) : (s.activity n).watch = s.watch :=
  State.watch_of_butSections (State.activity_butSections s _)

/-! ### judgeRestore -/

@[simp] theorem State.judgeRestore_pending (k : Fin 24) : (s.judgeRestore k).pending = s.pending :=
  State.pending_of_butSections (State.judgeRestore_butSections s _)
@[simp] theorem State.judgeRestore_pins (k : Fin 24) : (s.judgeRestore k).pins = s.pins :=
  State.pins_of_butSections (State.judgeRestore_butSections s _)
@[simp] theorem State.judgeRestore_partTime (k : Fin 24) : (s.judgeRestore k).partTime = s.partTime :=
  State.partTime_of_butSections (State.judgeRestore_butSections s _)
@[simp] theorem State.judgeRestore_mode (k : Fin 24) : (s.judgeRestore k).mode = s.mode :=
  State.mode_of_butSections (State.judgeRestore_butSections s _)
@[simp] theorem State.judgeRestore_pendingRestart (k : Fin 24) : (s.judgeRestore k).pendingRestart = s.pendingRestart :=
  State.pendingRestart_of_butSections (State.judgeRestore_butSections s _)
@[simp] theorem State.judgeRestore_tables (k : Fin 24) : (s.judgeRestore k).tables = s.tables :=
  State.tables_of_butSections (State.judgeRestore_butSections s _)
@[simp] theorem State.judgeRestore_tallies (k : Fin 24) : (s.judgeRestore k).tallies = s.tallies :=
  State.tallies_of_butSections (State.judgeRestore_butSections s _)
@[simp] theorem State.judgeRestore_fieldPort (k : Fin 24) : (s.judgeRestore k).fieldPort = s.fieldPort :=
  State.fieldPort_of_butSections (State.judgeRestore_butSections s _)
@[simp] theorem State.judgeRestore_linePort (k : Fin 24) : (s.judgeRestore k).linePort = s.linePort :=
  State.linePort_of_butSections (State.judgeRestore_butSections s _)
@[simp] theorem State.judgeRestore_heads (k : Fin 24) : (s.judgeRestore k).heads = s.heads :=
  State.heads_of_butSections (State.judgeRestore_butSections s _)
@[simp] theorem State.judgeRestore_relayOut (k : Fin 24) : (s.judgeRestore k).relayOut = s.relayOut :=
  State.relayOut_of_butSections (State.judgeRestore_butSections s _)
@[simp] theorem State.judgeRestore_channels (k : Fin 24) : (s.judgeRestore k).channels = s.channels :=
  State.channels_of_butSections (State.judgeRestore_butSections s _)
@[simp] theorem State.judgeRestore_watch (k : Fin 24) : (s.judgeRestore k).watch = s.watch :=
  State.watch_of_butSections (State.judgeRestore_butSections s _)

/-! ### judgeWarning -/

@[simp] theorem State.judgeWarning_pending (k : Fin 24) : (s.judgeWarning k).pending = s.pending :=
  State.pending_of_butSections (State.judgeWarning_butSections s _)
@[simp] theorem State.judgeWarning_pins (k : Fin 24) : (s.judgeWarning k).pins = s.pins :=
  State.pins_of_butSections (State.judgeWarning_butSections s _)
@[simp] theorem State.judgeWarning_partTime (k : Fin 24) : (s.judgeWarning k).partTime = s.partTime :=
  State.partTime_of_butSections (State.judgeWarning_butSections s _)
@[simp] theorem State.judgeWarning_mode (k : Fin 24) : (s.judgeWarning k).mode = s.mode :=
  State.mode_of_butSections (State.judgeWarning_butSections s _)
@[simp] theorem State.judgeWarning_pendingRestart (k : Fin 24) : (s.judgeWarning k).pendingRestart = s.pendingRestart :=
  State.pendingRestart_of_butSections (State.judgeWarning_butSections s _)
@[simp] theorem State.judgeWarning_tables (k : Fin 24) : (s.judgeWarning k).tables = s.tables :=
  State.tables_of_butSections (State.judgeWarning_butSections s _)
@[simp] theorem State.judgeWarning_tallies (k : Fin 24) : (s.judgeWarning k).tallies = s.tallies :=
  State.tallies_of_butSections (State.judgeWarning_butSections s _)
@[simp] theorem State.judgeWarning_fieldPort (k : Fin 24) : (s.judgeWarning k).fieldPort = s.fieldPort :=
  State.fieldPort_of_butSections (State.judgeWarning_butSections s _)
@[simp] theorem State.judgeWarning_linePort (k : Fin 24) : (s.judgeWarning k).linePort = s.linePort :=
  State.linePort_of_butSections (State.judgeWarning_butSections s _)
@[simp] theorem State.judgeWarning_heads (k : Fin 24) : (s.judgeWarning k).heads = s.heads :=
  State.heads_of_butSections (State.judgeWarning_butSections s _)
@[simp] theorem State.judgeWarning_relayOut (k : Fin 24) : (s.judgeWarning k).relayOut = s.relayOut :=
  State.relayOut_of_butSections (State.judgeWarning_butSections s _)
@[simp] theorem State.judgeWarning_channels (k : Fin 24) : (s.judgeWarning k).channels = s.channels :=
  State.channels_of_butSections (State.judgeWarning_butSections s _)
@[simp] theorem State.judgeWarning_watch (k : Fin 24) : (s.judgeWarning k).watch = s.watch :=
  State.watch_of_butSections (State.judgeWarning_butSections s _)

/-! ### sourceEventAt -/

@[simp] theorem State.sourceEventAt_pending (n : Fin 40) (e : SourceEvent) (k : Fin 24) : (s.sourceEventAt n e k).pending = s.pending :=
  State.pending_of_butSections (State.sourceEventAt_butSections s _ _ _)
@[simp] theorem State.sourceEventAt_pins (n : Fin 40) (e : SourceEvent) (k : Fin 24) : (s.sourceEventAt n e k).pins = s.pins :=
  State.pins_of_butSections (State.sourceEventAt_butSections s _ _ _)
@[simp] theorem State.sourceEventAt_partTime (n : Fin 40) (e : SourceEvent) (k : Fin 24) : (s.sourceEventAt n e k).partTime = s.partTime :=
  State.partTime_of_butSections (State.sourceEventAt_butSections s _ _ _)
@[simp] theorem State.sourceEventAt_mode (n : Fin 40) (e : SourceEvent) (k : Fin 24) : (s.sourceEventAt n e k).mode = s.mode :=
  State.mode_of_butSections (State.sourceEventAt_butSections s _ _ _)
@[simp] theorem State.sourceEventAt_pendingRestart (n : Fin 40) (e : SourceEvent) (k : Fin 24) : (s.sourceEventAt n e k).pendingRestart = s.pendingRestart :=
  State.pendingRestart_of_butSections (State.sourceEventAt_butSections s _ _ _)
@[simp] theorem State.sourceEventAt_tables (n : Fin 40) (e : SourceEvent) (k : Fin 24) : (s.sourceEventAt n e k).tables = s.tables :=
  State.tables_of_butSections (State.sourceEventAt_butSections s _ _ _)
@[simp] theorem State.sourceEventAt_tallies (n : Fin 40) (e : SourceEvent) (k : Fin 24) : (s.sourceEventAt n e k).tallies = s.tallies :=
  State.tallies_of_butSections (State.sourceEventAt_butSections s _ _ _)
@[simp] theorem State.sourceEventAt_fieldPort (n : Fin 40) (e : SourceEvent) (k : Fin 24) : (s.sourceEventAt n e k).fieldPort = s.fieldPort :=
  State.fieldPort_of_butSections (State.sourceEventAt_butSections s _ _ _)
@[simp] theorem State.sourceEventAt_linePort (n : Fin 40) (e : SourceEvent) (k : Fin 24) : (s.sourceEventAt n e k).linePort = s.linePort :=
  State.linePort_of_butSections (State.sourceEventAt_butSections s _ _ _)
@[simp] theorem State.sourceEventAt_heads (n : Fin 40) (e : SourceEvent) (k : Fin 24) : (s.sourceEventAt n e k).heads = s.heads :=
  State.heads_of_butSections (State.sourceEventAt_butSections s _ _ _)
@[simp] theorem State.sourceEventAt_relayOut (n : Fin 40) (e : SourceEvent) (k : Fin 24) : (s.sourceEventAt n e k).relayOut = s.relayOut :=
  State.relayOut_of_butSections (State.sourceEventAt_butSections s _ _ _)
@[simp] theorem State.sourceEventAt_channels (n : Fin 40) (e : SourceEvent) (k : Fin 24) : (s.sourceEventAt n e k).channels = s.channels :=
  State.channels_of_butSections (State.sourceEventAt_butSections s _ _ _)
@[simp] theorem State.sourceEventAt_watch (n : Fin 40) (e : SourceEvent) (k : Fin 24) : (s.sourceEventAt n e k).watch = s.watch :=
  State.watch_of_butSections (State.sourceEventAt_butSections s _ _ _)

/-! ### deliver -/

@[simp] theorem State.deliver_pending (n : Fin 40) (e : SourceEvent) : (s.deliver n e).pending = s.pending :=
  State.pending_of_butSections (State.deliver_butSections s _ _)
@[simp] theorem State.deliver_pins (n : Fin 40) (e : SourceEvent) : (s.deliver n e).pins = s.pins :=
  State.pins_of_butSections (State.deliver_butSections s _ _)
@[simp] theorem State.deliver_partTime (n : Fin 40) (e : SourceEvent) : (s.deliver n e).partTime = s.partTime :=
  State.partTime_of_butSections (State.deliver_butSections s _ _)
@[simp] theorem State.deliver_mode (n : Fin 40) (e : SourceEvent) : (s.deliver n e).mode = s.mode :=
  State.mode_of_butSections (State.deliver_butSections s _ _)
@[simp] theorem State.deliver_pendingRestart (n : Fin 40) (e : SourceEvent) : (s.deliver n e).pendingRestart = s.pendingRestart :=
  State.pendingRestart_of_butSections (State.deliver_butSections s _ _)
@[simp] theorem State.deliver_tables (n : Fin 40) (e : SourceEvent) : (s.deliver n e).tables = s.tables :=
  State.tables_of_butSections (State.deliver_butSections s _ _)
@[simp] theorem State.deliver_tallies (n : Fin 40) (e : SourceEvent) : (s.deliver n e).tallies = s.tallies :=
  State.tallies_of_butSections (State.deliver_butSections s _ _)
@[simp] theorem State.deliver_fieldPort (n : Fin 40) (e : SourceEvent) : (s.deliver n e).fieldPort = s.fieldPort :=
  State.fieldPort_of_butSections (State.deliver_butSections s _ _)
@[simp] theorem State.deliver_linePort (n : Fin 40) (e : SourceEvent) : (s.deliver n e).linePort = s.linePort :=
  State.linePort_of_butSections (State.deliver_butSections s _ _)
@[simp] theorem State.deliver_heads (n : Fin 40) (e : SourceEvent) : (s.deliver n e).heads = s.heads :=
  State.heads_of_butSections (State.deliver_butSections s _ _)
@[simp] theorem State.deliver_relayOut (n : Fin 40) (e : SourceEvent) : (s.deliver n e).relayOut = s.relayOut :=
  State.relayOut_of_butSections (State.deliver_butSections s _ _)
@[simp] theorem State.deliver_channels (n : Fin 40) (e : SourceEvent) : (s.deliver n e).channels = s.channels :=
  State.channels_of_butSections (State.deliver_butSections s _ _)
@[simp] theorem State.deliver_watch (n : Fin 40) (e : SourceEvent) : (s.deliver n e).watch = s.watch :=
  State.watch_of_butSections (State.deliver_butSections s _ _)

/-! ### deliverOpt -/

@[simp] theorem State.deliverOpt_pending (n : Fin 40) (e : Option SourceEvent) : (s.deliverOpt n e).pending = s.pending :=
  State.pending_of_butSections (State.deliverOpt_butSections s _ _)
@[simp] theorem State.deliverOpt_pins (n : Fin 40) (e : Option SourceEvent) : (s.deliverOpt n e).pins = s.pins :=
  State.pins_of_butSections (State.deliverOpt_butSections s _ _)
@[simp] theorem State.deliverOpt_partTime (n : Fin 40) (e : Option SourceEvent) : (s.deliverOpt n e).partTime = s.partTime :=
  State.partTime_of_butSections (State.deliverOpt_butSections s _ _)
@[simp] theorem State.deliverOpt_mode (n : Fin 40) (e : Option SourceEvent) : (s.deliverOpt n e).mode = s.mode :=
  State.mode_of_butSections (State.deliverOpt_butSections s _ _)
@[simp] theorem State.deliverOpt_pendingRestart (n : Fin 40) (e : Option SourceEvent) : (s.deliverOpt n e).pendingRestart = s.pendingRestart :=
  State.pendingRestart_of_butSections (State.deliverOpt_butSections s _ _)
@[simp] theorem State.deliverOpt_tables (n : Fin 40) (e : Option SourceEvent) : (s.deliverOpt n e).tables = s.tables :=
  State.tables_of_butSections (State.deliverOpt_butSections s _ _)
@[simp] theorem State.deliverOpt_tallies (n : Fin 40) (e : Option SourceEvent) : (s.deliverOpt n e).tallies = s.tallies :=
  State.tallies_of_butSections (State.deliverOpt_butSections s _ _)
@[simp] theorem State.deliverOpt_fieldPort (n : Fin 40) (e : Option SourceEvent) : (s.deliverOpt n e).fieldPort = s.fieldPort :=
  State.fieldPort_of_butSections (State.deliverOpt_butSections s _ _)
@[simp] theorem State.deliverOpt_linePort (n : Fin 40) (e : Option SourceEvent) : (s.deliverOpt n e).linePort = s.linePort :=
  State.linePort_of_butSections (State.deliverOpt_butSections s _ _)
@[simp] theorem State.deliverOpt_heads (n : Fin 40) (e : Option SourceEvent) : (s.deliverOpt n e).heads = s.heads :=
  State.heads_of_butSections (State.deliverOpt_butSections s _ _)
@[simp] theorem State.deliverOpt_relayOut (n : Fin 40) (e : Option SourceEvent) : (s.deliverOpt n e).relayOut = s.relayOut :=
  State.relayOut_of_butSections (State.deliverOpt_butSections s _ _)
@[simp] theorem State.deliverOpt_channels (n : Fin 40) (e : Option SourceEvent) : (s.deliverOpt n e).channels = s.channels :=
  State.channels_of_butSections (State.deliverOpt_butSections s _ _)
@[simp] theorem State.deliverOpt_watch (n : Fin 40) (e : Option SourceEvent) : (s.deliverOpt n e).watch = s.watch :=
  State.watch_of_butSections (State.deliverOpt_butSections s _ _)

/-! ### restoreExpiry -/

@[simp] theorem State.restoreExpiry_pending (k : Fin 24) : (s.restoreExpiry k).pending = s.pending :=
  State.pending_of_butSections (State.restoreExpiry_butSections s _)
@[simp] theorem State.restoreExpiry_pins (k : Fin 24) : (s.restoreExpiry k).pins = s.pins :=
  State.pins_of_butSections (State.restoreExpiry_butSections s _)
@[simp] theorem State.restoreExpiry_partTime (k : Fin 24) : (s.restoreExpiry k).partTime = s.partTime :=
  State.partTime_of_butSections (State.restoreExpiry_butSections s _)
@[simp] theorem State.restoreExpiry_mode (k : Fin 24) : (s.restoreExpiry k).mode = s.mode :=
  State.mode_of_butSections (State.restoreExpiry_butSections s _)
@[simp] theorem State.restoreExpiry_pendingRestart (k : Fin 24) : (s.restoreExpiry k).pendingRestart = s.pendingRestart :=
  State.pendingRestart_of_butSections (State.restoreExpiry_butSections s _)
@[simp] theorem State.restoreExpiry_tables (k : Fin 24) : (s.restoreExpiry k).tables = s.tables :=
  State.tables_of_butSections (State.restoreExpiry_butSections s _)
@[simp] theorem State.restoreExpiry_tallies (k : Fin 24) : (s.restoreExpiry k).tallies = s.tallies :=
  State.tallies_of_butSections (State.restoreExpiry_butSections s _)
@[simp] theorem State.restoreExpiry_fieldPort (k : Fin 24) : (s.restoreExpiry k).fieldPort = s.fieldPort :=
  State.fieldPort_of_butSections (State.restoreExpiry_butSections s _)
@[simp] theorem State.restoreExpiry_linePort (k : Fin 24) : (s.restoreExpiry k).linePort = s.linePort :=
  State.linePort_of_butSections (State.restoreExpiry_butSections s _)
@[simp] theorem State.restoreExpiry_heads (k : Fin 24) : (s.restoreExpiry k).heads = s.heads :=
  State.heads_of_butSections (State.restoreExpiry_butSections s _)
@[simp] theorem State.restoreExpiry_relayOut (k : Fin 24) : (s.restoreExpiry k).relayOut = s.relayOut :=
  State.relayOut_of_butSections (State.restoreExpiry_butSections s _)
@[simp] theorem State.restoreExpiry_channels (k : Fin 24) : (s.restoreExpiry k).channels = s.channels :=
  State.channels_of_butSections (State.restoreExpiry_butSections s _)
@[simp] theorem State.restoreExpiry_watch (k : Fin 24) : (s.restoreExpiry k).watch = s.watch :=
  State.watch_of_butSections (State.restoreExpiry_butSections s _)

/-! ### noteStatus -/

@[simp] theorem State.noteStatus_pending (k : Fin 32) (b : OriginStatus) : (s.noteStatus k b).pending = s.pending :=
  State.pending_of_butTrack (State.noteStatus_butTrack s _ _)
@[simp] theorem State.noteStatus_pins (k : Fin 32) (b : OriginStatus) : (s.noteStatus k b).pins = s.pins :=
  State.pins_of_butTrack (State.noteStatus_butTrack s _ _)
@[simp] theorem State.noteStatus_partTime (k : Fin 32) (b : OriginStatus) : (s.noteStatus k b).partTime = s.partTime :=
  State.partTime_of_butTrack (State.noteStatus_butTrack s _ _)
@[simp] theorem State.noteStatus_mode (k : Fin 32) (b : OriginStatus) : (s.noteStatus k b).mode = s.mode :=
  State.mode_of_butTrack (State.noteStatus_butTrack s _ _)
@[simp] theorem State.noteStatus_pendingRestart (k : Fin 32) (b : OriginStatus) : (s.noteStatus k b).pendingRestart = s.pendingRestart :=
  State.pendingRestart_of_butTrack (State.noteStatus_butTrack s _ _)
@[simp] theorem State.noteStatus_tables (k : Fin 32) (b : OriginStatus) : (s.noteStatus k b).tables = s.tables :=
  State.tables_of_butTrack (State.noteStatus_butTrack s _ _)
@[simp] theorem State.noteStatus_tallies (k : Fin 32) (b : OriginStatus) : (s.noteStatus k b).tallies = s.tallies :=
  State.tallies_of_butTrack (State.noteStatus_butTrack s _ _)
@[simp] theorem State.noteStatus_fieldPort (k : Fin 32) (b : OriginStatus) : (s.noteStatus k b).fieldPort = s.fieldPort :=
  State.fieldPort_of_butTrack (State.noteStatus_butTrack s _ _)
@[simp] theorem State.noteStatus_linePort (k : Fin 32) (b : OriginStatus) : (s.noteStatus k b).linePort = s.linePort :=
  State.linePort_of_butTrack (State.noteStatus_butTrack s _ _)
@[simp] theorem State.noteStatus_watch (k : Fin 32) (b : OriginStatus) : (s.noteStatus k b).watch = s.watch :=
  State.watch_of_butTrack (State.noteStatus_butTrack s _ _)

/-! ### relayPassage -/

@[simp] theorem State.relayPassage_pending (k : Fin 32) (p : Passage) : (s.relayPassage k p).pending = s.pending :=
  State.pending_of_butTrack (State.relayPassage_butTrack s _ _)
@[simp] theorem State.relayPassage_pins (k : Fin 32) (p : Passage) : (s.relayPassage k p).pins = s.pins :=
  State.pins_of_butTrack (State.relayPassage_butTrack s _ _)
@[simp] theorem State.relayPassage_partTime (k : Fin 32) (p : Passage) : (s.relayPassage k p).partTime = s.partTime :=
  State.partTime_of_butTrack (State.relayPassage_butTrack s _ _)
@[simp] theorem State.relayPassage_mode (k : Fin 32) (p : Passage) : (s.relayPassage k p).mode = s.mode :=
  State.mode_of_butTrack (State.relayPassage_butTrack s _ _)
@[simp] theorem State.relayPassage_pendingRestart (k : Fin 32) (p : Passage) : (s.relayPassage k p).pendingRestart = s.pendingRestart :=
  State.pendingRestart_of_butTrack (State.relayPassage_butTrack s _ _)
@[simp] theorem State.relayPassage_tables (k : Fin 32) (p : Passage) : (s.relayPassage k p).tables = s.tables :=
  State.tables_of_butTrack (State.relayPassage_butTrack s _ _)
@[simp] theorem State.relayPassage_tallies (k : Fin 32) (p : Passage) : (s.relayPassage k p).tallies = s.tallies :=
  State.tallies_of_butTrack (State.relayPassage_butTrack s _ _)
@[simp] theorem State.relayPassage_fieldPort (k : Fin 32) (p : Passage) : (s.relayPassage k p).fieldPort = s.fieldPort :=
  State.fieldPort_of_butTrack (State.relayPassage_butTrack s _ _)
@[simp] theorem State.relayPassage_linePort (k : Fin 32) (p : Passage) : (s.relayPassage k p).linePort = s.linePort :=
  State.linePort_of_butTrack (State.relayPassage_butTrack s _ _)
@[simp] theorem State.relayPassage_watch (k : Fin 32) (p : Passage) : (s.relayPassage k p).watch = s.watch :=
  State.watch_of_butTrack (State.relayPassage_butTrack s _ _)

/-! ### deliverPassage -/

@[simp] theorem State.deliverPassage_pending (p : Option PassageRecord) : (s.deliverPassage p).pending = s.pending :=
  State.pending_of_butTrack (State.deliverPassage_butTrack s _)
@[simp] theorem State.deliverPassage_pins (p : Option PassageRecord) : (s.deliverPassage p).pins = s.pins :=
  State.pins_of_butTrack (State.deliverPassage_butTrack s _)
@[simp] theorem State.deliverPassage_partTime (p : Option PassageRecord) : (s.deliverPassage p).partTime = s.partTime :=
  State.partTime_of_butTrack (State.deliverPassage_butTrack s _)
@[simp] theorem State.deliverPassage_mode (p : Option PassageRecord) : (s.deliverPassage p).mode = s.mode :=
  State.mode_of_butTrack (State.deliverPassage_butTrack s _)
@[simp] theorem State.deliverPassage_pendingRestart (p : Option PassageRecord) : (s.deliverPassage p).pendingRestart = s.pendingRestart :=
  State.pendingRestart_of_butTrack (State.deliverPassage_butTrack s _)
@[simp] theorem State.deliverPassage_tables (p : Option PassageRecord) : (s.deliverPassage p).tables = s.tables :=
  State.tables_of_butTrack (State.deliverPassage_butTrack s _)
@[simp] theorem State.deliverPassage_tallies (p : Option PassageRecord) : (s.deliverPassage p).tallies = s.tallies :=
  State.tallies_of_butTrack (State.deliverPassage_butTrack s _)
@[simp] theorem State.deliverPassage_fieldPort (p : Option PassageRecord) : (s.deliverPassage p).fieldPort = s.fieldPort :=
  State.fieldPort_of_butTrack (State.deliverPassage_butTrack s _)
@[simp] theorem State.deliverPassage_linePort (p : Option PassageRecord) : (s.deliverPassage p).linePort = s.linePort :=
  State.linePort_of_butTrack (State.deliverPassage_butTrack s _)
@[simp] theorem State.deliverPassage_watch (p : Option PassageRecord) : (s.deliverPassage p).watch = s.watch :=
  State.watch_of_butTrack (State.deliverPassage_butTrack s _)

/-! ### commitHead -/

@[simp] theorem State.commitHead_pending (k : Fin 32) (h : HeadRun) : (s.commitHead k h).pending = s.pending :=
  State.pending_of_butTrack (State.commitHead_butTrack s _ _)
@[simp] theorem State.commitHead_pins (k : Fin 32) (h : HeadRun) : (s.commitHead k h).pins = s.pins :=
  State.pins_of_butTrack (State.commitHead_butTrack s _ _)
@[simp] theorem State.commitHead_partTime (k : Fin 32) (h : HeadRun) : (s.commitHead k h).partTime = s.partTime :=
  State.partTime_of_butTrack (State.commitHead_butTrack s _ _)
@[simp] theorem State.commitHead_mode (k : Fin 32) (h : HeadRun) : (s.commitHead k h).mode = s.mode :=
  State.mode_of_butTrack (State.commitHead_butTrack s _ _)
@[simp] theorem State.commitHead_pendingRestart (k : Fin 32) (h : HeadRun) : (s.commitHead k h).pendingRestart = s.pendingRestart :=
  State.pendingRestart_of_butTrack (State.commitHead_butTrack s _ _)
@[simp] theorem State.commitHead_tables (k : Fin 32) (h : HeadRun) : (s.commitHead k h).tables = s.tables :=
  State.tables_of_butTrack (State.commitHead_butTrack s _ _)
@[simp] theorem State.commitHead_tallies (k : Fin 32) (h : HeadRun) : (s.commitHead k h).tallies = s.tallies :=
  State.tallies_of_butTrack (State.commitHead_butTrack s _ _)
@[simp] theorem State.commitHead_fieldPort (k : Fin 32) (h : HeadRun) : (s.commitHead k h).fieldPort = s.fieldPort :=
  State.fieldPort_of_butTrack (State.commitHead_butTrack s _ _)
@[simp] theorem State.commitHead_linePort (k : Fin 32) (h : HeadRun) : (s.commitHead k h).linePort = s.linePort :=
  State.linePort_of_butTrack (State.commitHead_butTrack s _ _)
@[simp] theorem State.commitHead_watch (k : Fin 32) (h : HeadRun) : (s.commitHead k h).watch = s.watch :=
  State.watch_of_butTrack (State.commitHead_butTrack s _ _)

/-! ### lifeFrame -/

@[simp] theorem State.lifeFrame_pending (k : Fin 32) (f : LifeFields) : (s.lifeFrame k f).pending = s.pending :=
  State.pending_of_butTrack (State.lifeFrame_butTrack s _ _)
@[simp] theorem State.lifeFrame_pins (k : Fin 32) (f : LifeFields) : (s.lifeFrame k f).pins = s.pins :=
  State.pins_of_butTrack (State.lifeFrame_butTrack s _ _)
@[simp] theorem State.lifeFrame_partTime (k : Fin 32) (f : LifeFields) : (s.lifeFrame k f).partTime = s.partTime :=
  State.partTime_of_butTrack (State.lifeFrame_butTrack s _ _)
@[simp] theorem State.lifeFrame_mode (k : Fin 32) (f : LifeFields) : (s.lifeFrame k f).mode = s.mode :=
  State.mode_of_butTrack (State.lifeFrame_butTrack s _ _)
@[simp] theorem State.lifeFrame_pendingRestart (k : Fin 32) (f : LifeFields) : (s.lifeFrame k f).pendingRestart = s.pendingRestart :=
  State.pendingRestart_of_butTrack (State.lifeFrame_butTrack s _ _)
@[simp] theorem State.lifeFrame_tables (k : Fin 32) (f : LifeFields) : (s.lifeFrame k f).tables = s.tables :=
  State.tables_of_butTrack (State.lifeFrame_butTrack s _ _)
@[simp] theorem State.lifeFrame_tallies (k : Fin 32) (f : LifeFields) : (s.lifeFrame k f).tallies = s.tallies :=
  State.tallies_of_butTrack (State.lifeFrame_butTrack s _ _)
@[simp] theorem State.lifeFrame_fieldPort (k : Fin 32) (f : LifeFields) : (s.lifeFrame k f).fieldPort = s.fieldPort :=
  State.fieldPort_of_butTrack (State.lifeFrame_butTrack s _ _)
@[simp] theorem State.lifeFrame_linePort (k : Fin 32) (f : LifeFields) : (s.lifeFrame k f).linePort = s.linePort :=
  State.linePort_of_butTrack (State.lifeFrame_butTrack s _ _)
@[simp] theorem State.lifeFrame_watch (k : Fin 32) (f : LifeFields) : (s.lifeFrame k f).watch = s.watch :=
  State.watch_of_butTrack (State.lifeFrame_butTrack s _ _)

/-! ### edges -/

@[simp] theorem State.edges_pending (k : Fin 32) (a : Anchor) (b : Option (Time × Half)) (es : List EdgeOperand) : (s.edges k a b es).pending = s.pending :=
  State.pending_of_butTrack (State.edges_butTrack s _ _ _ _)
@[simp] theorem State.edges_pins (k : Fin 32) (a : Anchor) (b : Option (Time × Half)) (es : List EdgeOperand) : (s.edges k a b es).pins = s.pins :=
  State.pins_of_butTrack (State.edges_butTrack s _ _ _ _)
@[simp] theorem State.edges_partTime (k : Fin 32) (a : Anchor) (b : Option (Time × Half)) (es : List EdgeOperand) : (s.edges k a b es).partTime = s.partTime :=
  State.partTime_of_butTrack (State.edges_butTrack s _ _ _ _)
@[simp] theorem State.edges_mode (k : Fin 32) (a : Anchor) (b : Option (Time × Half)) (es : List EdgeOperand) : (s.edges k a b es).mode = s.mode :=
  State.mode_of_butTrack (State.edges_butTrack s _ _ _ _)
@[simp] theorem State.edges_pendingRestart (k : Fin 32) (a : Anchor) (b : Option (Time × Half)) (es : List EdgeOperand) : (s.edges k a b es).pendingRestart = s.pendingRestart :=
  State.pendingRestart_of_butTrack (State.edges_butTrack s _ _ _ _)
@[simp] theorem State.edges_tables (k : Fin 32) (a : Anchor) (b : Option (Time × Half)) (es : List EdgeOperand) : (s.edges k a b es).tables = s.tables :=
  State.tables_of_butTrack (State.edges_butTrack s _ _ _ _)
@[simp] theorem State.edges_tallies (k : Fin 32) (a : Anchor) (b : Option (Time × Half)) (es : List EdgeOperand) : (s.edges k a b es).tallies = s.tallies :=
  State.tallies_of_butTrack (State.edges_butTrack s _ _ _ _)
@[simp] theorem State.edges_fieldPort (k : Fin 32) (a : Anchor) (b : Option (Time × Half)) (es : List EdgeOperand) : (s.edges k a b es).fieldPort = s.fieldPort :=
  State.fieldPort_of_butTrack (State.edges_butTrack s _ _ _ _)
@[simp] theorem State.edges_linePort (k : Fin 32) (a : Anchor) (b : Option (Time × Half)) (es : List EdgeOperand) : (s.edges k a b es).linePort = s.linePort :=
  State.linePort_of_butTrack (State.edges_butTrack s _ _ _ _)
@[simp] theorem State.edges_watch (k : Fin 32) (a : Anchor) (b : Option (Time × Half)) (es : List EdgeOperand) : (s.edges k a b es).watch = s.watch :=
  State.watch_of_butTrack (State.edges_butTrack s _ _ _ _)

/-! ### wheelAccepted -/

@[simp] theorem State.wheelAccepted_pending (k : Fin 32) (q fl : Byte) (es : List EdgeOperand) : (s.wheelAccepted k q fl es).pending = s.pending :=
  State.pending_of_butTrack (State.wheelAccepted_butTrack s _ _ _ _)
@[simp] theorem State.wheelAccepted_pins (k : Fin 32) (q fl : Byte) (es : List EdgeOperand) : (s.wheelAccepted k q fl es).pins = s.pins :=
  State.pins_of_butTrack (State.wheelAccepted_butTrack s _ _ _ _)
@[simp] theorem State.wheelAccepted_partTime (k : Fin 32) (q fl : Byte) (es : List EdgeOperand) : (s.wheelAccepted k q fl es).partTime = s.partTime :=
  State.partTime_of_butTrack (State.wheelAccepted_butTrack s _ _ _ _)
@[simp] theorem State.wheelAccepted_mode (k : Fin 32) (q fl : Byte) (es : List EdgeOperand) : (s.wheelAccepted k q fl es).mode = s.mode :=
  State.mode_of_butTrack (State.wheelAccepted_butTrack s _ _ _ _)
@[simp] theorem State.wheelAccepted_pendingRestart (k : Fin 32) (q fl : Byte) (es : List EdgeOperand) : (s.wheelAccepted k q fl es).pendingRestart = s.pendingRestart :=
  State.pendingRestart_of_butTrack (State.wheelAccepted_butTrack s _ _ _ _)
@[simp] theorem State.wheelAccepted_tables (k : Fin 32) (q fl : Byte) (es : List EdgeOperand) : (s.wheelAccepted k q fl es).tables = s.tables :=
  State.tables_of_butTrack (State.wheelAccepted_butTrack s _ _ _ _)
@[simp] theorem State.wheelAccepted_tallies (k : Fin 32) (q fl : Byte) (es : List EdgeOperand) : (s.wheelAccepted k q fl es).tallies = s.tallies :=
  State.tallies_of_butTrack (State.wheelAccepted_butTrack s _ _ _ _)
@[simp] theorem State.wheelAccepted_fieldPort (k : Fin 32) (q fl : Byte) (es : List EdgeOperand) : (s.wheelAccepted k q fl es).fieldPort = s.fieldPort :=
  State.fieldPort_of_butTrack (State.wheelAccepted_butTrack s _ _ _ _)
@[simp] theorem State.wheelAccepted_linePort (k : Fin 32) (q fl : Byte) (es : List EdgeOperand) : (s.wheelAccepted k q fl es).linePort = s.linePort :=
  State.linePort_of_butTrack (State.wheelAccepted_butTrack s _ _ _ _)
@[simp] theorem State.wheelAccepted_watch (k : Fin 32) (q fl : Byte) (es : List EdgeOperand) : (s.wheelAccepted k q fl es).watch = s.watch :=
  State.watch_of_butTrack (State.wheelAccepted_butTrack s _ _ _ _)

/-! ### wheelFrame -/

@[simp] theorem State.wheelFrame_pending (k : Fin 32) (q fl : Byte) (es : List EdgeOperand) : (s.wheelFrame k q fl es).pending = s.pending :=
  State.pending_of_butTrack (State.wheelFrame_butTrack s _ _ _ _)
@[simp] theorem State.wheelFrame_pins (k : Fin 32) (q fl : Byte) (es : List EdgeOperand) : (s.wheelFrame k q fl es).pins = s.pins :=
  State.pins_of_butTrack (State.wheelFrame_butTrack s _ _ _ _)
@[simp] theorem State.wheelFrame_partTime (k : Fin 32) (q fl : Byte) (es : List EdgeOperand) : (s.wheelFrame k q fl es).partTime = s.partTime :=
  State.partTime_of_butTrack (State.wheelFrame_butTrack s _ _ _ _)
@[simp] theorem State.wheelFrame_mode (k : Fin 32) (q fl : Byte) (es : List EdgeOperand) : (s.wheelFrame k q fl es).mode = s.mode :=
  State.mode_of_butTrack (State.wheelFrame_butTrack s _ _ _ _)
@[simp] theorem State.wheelFrame_pendingRestart (k : Fin 32) (q fl : Byte) (es : List EdgeOperand) : (s.wheelFrame k q fl es).pendingRestart = s.pendingRestart :=
  State.pendingRestart_of_butTrack (State.wheelFrame_butTrack s _ _ _ _)
@[simp] theorem State.wheelFrame_tables (k : Fin 32) (q fl : Byte) (es : List EdgeOperand) : (s.wheelFrame k q fl es).tables = s.tables :=
  State.tables_of_butTrack (State.wheelFrame_butTrack s _ _ _ _)
@[simp] theorem State.wheelFrame_tallies (k : Fin 32) (q fl : Byte) (es : List EdgeOperand) : (s.wheelFrame k q fl es).tallies = s.tallies :=
  State.tallies_of_butTrack (State.wheelFrame_butTrack s _ _ _ _)
@[simp] theorem State.wheelFrame_fieldPort (k : Fin 32) (q fl : Byte) (es : List EdgeOperand) : (s.wheelFrame k q fl es).fieldPort = s.fieldPort :=
  State.fieldPort_of_butTrack (State.wheelFrame_butTrack s _ _ _ _)
@[simp] theorem State.wheelFrame_linePort (k : Fin 32) (q fl : Byte) (es : List EdgeOperand) : (s.wheelFrame k q fl es).linePort = s.linePort :=
  State.linePort_of_butTrack (State.wheelFrame_butTrack s _ _ _ _)
@[simp] theorem State.wheelFrame_watch (k : Fin 32) (q fl : Byte) (es : List EdgeOperand) : (s.wheelFrame k q fl es).watch = s.watch :=
  State.watch_of_butTrack (State.wheelFrame_butTrack s _ _ _ _)

/-! ### headExpiry -/

@[simp] theorem State.headExpiry_pending (k : Fin 32) : (s.headExpiry k).pending = s.pending :=
  State.pending_of_butTrack (State.headExpiry_butTrack s _)
@[simp] theorem State.headExpiry_pins (k : Fin 32) : (s.headExpiry k).pins = s.pins :=
  State.pins_of_butTrack (State.headExpiry_butTrack s _)
@[simp] theorem State.headExpiry_partTime (k : Fin 32) : (s.headExpiry k).partTime = s.partTime :=
  State.partTime_of_butTrack (State.headExpiry_butTrack s _)
@[simp] theorem State.headExpiry_mode (k : Fin 32) : (s.headExpiry k).mode = s.mode :=
  State.mode_of_butTrack (State.headExpiry_butTrack s _)
@[simp] theorem State.headExpiry_pendingRestart (k : Fin 32) : (s.headExpiry k).pendingRestart = s.pendingRestart :=
  State.pendingRestart_of_butTrack (State.headExpiry_butTrack s _)
@[simp] theorem State.headExpiry_tables (k : Fin 32) : (s.headExpiry k).tables = s.tables :=
  State.tables_of_butTrack (State.headExpiry_butTrack s _)
@[simp] theorem State.headExpiry_tallies (k : Fin 32) : (s.headExpiry k).tallies = s.tallies :=
  State.tallies_of_butTrack (State.headExpiry_butTrack s _)
@[simp] theorem State.headExpiry_fieldPort (k : Fin 32) : (s.headExpiry k).fieldPort = s.fieldPort :=
  State.fieldPort_of_butTrack (State.headExpiry_butTrack s _)
@[simp] theorem State.headExpiry_linePort (k : Fin 32) : (s.headExpiry k).linePort = s.linePort :=
  State.linePort_of_butTrack (State.headExpiry_butTrack s _)
@[simp] theorem State.headExpiry_watch (k : Fin 32) : (s.headExpiry k).watch = s.watch :=
  State.watch_of_butTrack (State.headExpiry_butTrack s _)

/-! ### testHead -/

@[simp] theorem State.testHead_pending (k : Fin 32) : (s.testHead k).pending = s.pending :=
  State.pending_of_butTrack (State.testHead_butTrack s _)
@[simp] theorem State.testHead_pins (k : Fin 32) : (s.testHead k).pins = s.pins :=
  State.pins_of_butTrack (State.testHead_butTrack s _)
@[simp] theorem State.testHead_partTime (k : Fin 32) : (s.testHead k).partTime = s.partTime :=
  State.partTime_of_butTrack (State.testHead_butTrack s _)
@[simp] theorem State.testHead_mode (k : Fin 32) : (s.testHead k).mode = s.mode :=
  State.mode_of_butTrack (State.testHead_butTrack s _)
@[simp] theorem State.testHead_pendingRestart (k : Fin 32) : (s.testHead k).pendingRestart = s.pendingRestart :=
  State.pendingRestart_of_butTrack (State.testHead_butTrack s _)
@[simp] theorem State.testHead_tables (k : Fin 32) : (s.testHead k).tables = s.tables :=
  State.tables_of_butTrack (State.testHead_butTrack s _)
@[simp] theorem State.testHead_tallies (k : Fin 32) : (s.testHead k).tallies = s.tallies :=
  State.tallies_of_butTrack (State.testHead_butTrack s _)
@[simp] theorem State.testHead_fieldPort (k : Fin 32) : (s.testHead k).fieldPort = s.fieldPort :=
  State.fieldPort_of_butTrack (State.testHead_butTrack s _)
@[simp] theorem State.testHead_linePort (k : Fin 32) : (s.testHead k).linePort = s.linePort :=
  State.linePort_of_butTrack (State.testHead_butTrack s _)
@[simp] theorem State.testHead_watch (k : Fin 32) : (s.testHead k).watch = s.watch :=
  State.watch_of_butTrack (State.testHead_butTrack s _)

/-! ### commitChannel -/

@[simp] theorem State.commitChannel_pending (c : Fin 8) (r : Channel) : (s.commitChannel c r).pending = s.pending :=
  State.pending_of_butTrack (State.commitChannel_butTrack s _ _)
@[simp] theorem State.commitChannel_pins (c : Fin 8) (r : Channel) : (s.commitChannel c r).pins = s.pins :=
  State.pins_of_butTrack (State.commitChannel_butTrack s _ _)
@[simp] theorem State.commitChannel_partTime (c : Fin 8) (r : Channel) : (s.commitChannel c r).partTime = s.partTime :=
  State.partTime_of_butTrack (State.commitChannel_butTrack s _ _)
@[simp] theorem State.commitChannel_mode (c : Fin 8) (r : Channel) : (s.commitChannel c r).mode = s.mode :=
  State.mode_of_butTrack (State.commitChannel_butTrack s _ _)
@[simp] theorem State.commitChannel_pendingRestart (c : Fin 8) (r : Channel) : (s.commitChannel c r).pendingRestart = s.pendingRestart :=
  State.pendingRestart_of_butTrack (State.commitChannel_butTrack s _ _)
@[simp] theorem State.commitChannel_tables (c : Fin 8) (r : Channel) : (s.commitChannel c r).tables = s.tables :=
  State.tables_of_butTrack (State.commitChannel_butTrack s _ _)
@[simp] theorem State.commitChannel_tallies (c : Fin 8) (r : Channel) : (s.commitChannel c r).tallies = s.tallies :=
  State.tallies_of_butTrack (State.commitChannel_butTrack s _ _)
@[simp] theorem State.commitChannel_fieldPort (c : Fin 8) (r : Channel) : (s.commitChannel c r).fieldPort = s.fieldPort :=
  State.fieldPort_of_butTrack (State.commitChannel_butTrack s _ _)
@[simp] theorem State.commitChannel_linePort (c : Fin 8) (r : Channel) : (s.commitChannel c r).linePort = s.linePort :=
  State.linePort_of_butTrack (State.commitChannel_butTrack s _ _)
@[simp] theorem State.commitChannel_watch (c : Fin 8) (r : Channel) : (s.commitChannel c r).watch = s.watch :=
  State.watch_of_butTrack (State.commitChannel_butTrack s _ _)

/-! ### channelFrame -/

@[simp] theorem State.channelFrame_pending (c : Fin 8) (q : Byte) (st : OriginStatus) (ps : List PassageOperand) : (s.channelFrame c q st ps).pending = s.pending :=
  State.pending_of_butTrack (State.channelFrame_butTrack s _ _ _ _)
@[simp] theorem State.channelFrame_pins (c : Fin 8) (q : Byte) (st : OriginStatus) (ps : List PassageOperand) : (s.channelFrame c q st ps).pins = s.pins :=
  State.pins_of_butTrack (State.channelFrame_butTrack s _ _ _ _)
@[simp] theorem State.channelFrame_partTime (c : Fin 8) (q : Byte) (st : OriginStatus) (ps : List PassageOperand) : (s.channelFrame c q st ps).partTime = s.partTime :=
  State.partTime_of_butTrack (State.channelFrame_butTrack s _ _ _ _)
@[simp] theorem State.channelFrame_mode (c : Fin 8) (q : Byte) (st : OriginStatus) (ps : List PassageOperand) : (s.channelFrame c q st ps).mode = s.mode :=
  State.mode_of_butTrack (State.channelFrame_butTrack s _ _ _ _)
@[simp] theorem State.channelFrame_pendingRestart (c : Fin 8) (q : Byte) (st : OriginStatus) (ps : List PassageOperand) : (s.channelFrame c q st ps).pendingRestart = s.pendingRestart :=
  State.pendingRestart_of_butTrack (State.channelFrame_butTrack s _ _ _ _)
@[simp] theorem State.channelFrame_tables (c : Fin 8) (q : Byte) (st : OriginStatus) (ps : List PassageOperand) : (s.channelFrame c q st ps).tables = s.tables :=
  State.tables_of_butTrack (State.channelFrame_butTrack s _ _ _ _)
@[simp] theorem State.channelFrame_tallies (c : Fin 8) (q : Byte) (st : OriginStatus) (ps : List PassageOperand) : (s.channelFrame c q st ps).tallies = s.tallies :=
  State.tallies_of_butTrack (State.channelFrame_butTrack s _ _ _ _)
@[simp] theorem State.channelFrame_fieldPort (c : Fin 8) (q : Byte) (st : OriginStatus) (ps : List PassageOperand) : (s.channelFrame c q st ps).fieldPort = s.fieldPort :=
  State.fieldPort_of_butTrack (State.channelFrame_butTrack s _ _ _ _)
@[simp] theorem State.channelFrame_linePort (c : Fin 8) (q : Byte) (st : OriginStatus) (ps : List PassageOperand) : (s.channelFrame c q st ps).linePort = s.linePort :=
  State.linePort_of_butTrack (State.channelFrame_butTrack s _ _ _ _)
@[simp] theorem State.channelFrame_watch (c : Fin 8) (q : Byte) (st : OriginStatus) (ps : List PassageOperand) : (s.channelFrame c q st ps).watch = s.watch :=
  State.watch_of_butTrack (State.channelFrame_butTrack s _ _ _ _)

/-! ### channelExpiry -/

@[simp] theorem State.channelExpiry_pending (c : Fin 8) : (s.channelExpiry c).pending = s.pending :=
  State.pending_of_butTrack (State.channelExpiry_butTrack s _)
@[simp] theorem State.channelExpiry_pins (c : Fin 8) : (s.channelExpiry c).pins = s.pins :=
  State.pins_of_butTrack (State.channelExpiry_butTrack s _)
@[simp] theorem State.channelExpiry_partTime (c : Fin 8) : (s.channelExpiry c).partTime = s.partTime :=
  State.partTime_of_butTrack (State.channelExpiry_butTrack s _)
@[simp] theorem State.channelExpiry_mode (c : Fin 8) : (s.channelExpiry c).mode = s.mode :=
  State.mode_of_butTrack (State.channelExpiry_butTrack s _)
@[simp] theorem State.channelExpiry_pendingRestart (c : Fin 8) : (s.channelExpiry c).pendingRestart = s.pendingRestart :=
  State.pendingRestart_of_butTrack (State.channelExpiry_butTrack s _)
@[simp] theorem State.channelExpiry_tables (c : Fin 8) : (s.channelExpiry c).tables = s.tables :=
  State.tables_of_butTrack (State.channelExpiry_butTrack s _)
@[simp] theorem State.channelExpiry_tallies (c : Fin 8) : (s.channelExpiry c).tallies = s.tallies :=
  State.tallies_of_butTrack (State.channelExpiry_butTrack s _)
@[simp] theorem State.channelExpiry_fieldPort (c : Fin 8) : (s.channelExpiry c).fieldPort = s.fieldPort :=
  State.fieldPort_of_butTrack (State.channelExpiry_butTrack s _)
@[simp] theorem State.channelExpiry_linePort (c : Fin 8) : (s.channelExpiry c).linePort = s.linePort :=
  State.linePort_of_butTrack (State.channelExpiry_butTrack s _)
@[simp] theorem State.channelExpiry_watch (c : Fin 8) : (s.channelExpiry c).watch = s.watch :=
  State.watch_of_butTrack (State.channelExpiry_butTrack s _)

/-! ### readmitChannel -/

@[simp] theorem State.readmitChannel_pending (c : Fin 8) : (s.readmitChannel c).pending = s.pending :=
  State.pending_of_butTrack (State.readmitChannel_butTrack s _)
@[simp] theorem State.readmitChannel_pins (c : Fin 8) : (s.readmitChannel c).pins = s.pins :=
  State.pins_of_butTrack (State.readmitChannel_butTrack s _)
@[simp] theorem State.readmitChannel_partTime (c : Fin 8) : (s.readmitChannel c).partTime = s.partTime :=
  State.partTime_of_butTrack (State.readmitChannel_butTrack s _)
@[simp] theorem State.readmitChannel_mode (c : Fin 8) : (s.readmitChannel c).mode = s.mode :=
  State.mode_of_butTrack (State.readmitChannel_butTrack s _)
@[simp] theorem State.readmitChannel_pendingRestart (c : Fin 8) : (s.readmitChannel c).pendingRestart = s.pendingRestart :=
  State.pendingRestart_of_butTrack (State.readmitChannel_butTrack s _)
@[simp] theorem State.readmitChannel_tables (c : Fin 8) : (s.readmitChannel c).tables = s.tables :=
  State.tables_of_butTrack (State.readmitChannel_butTrack s _)
@[simp] theorem State.readmitChannel_tallies (c : Fin 8) : (s.readmitChannel c).tallies = s.tallies :=
  State.tallies_of_butTrack (State.readmitChannel_butTrack s _)
@[simp] theorem State.readmitChannel_fieldPort (c : Fin 8) : (s.readmitChannel c).fieldPort = s.fieldPort :=
  State.fieldPort_of_butTrack (State.readmitChannel_butTrack s _)
@[simp] theorem State.readmitChannel_linePort (c : Fin 8) : (s.readmitChannel c).linePort = s.linePort :=
  State.linePort_of_butTrack (State.readmitChannel_butTrack s _)
@[simp] theorem State.readmitChannel_watch (c : Fin 8) : (s.readmitChannel c).watch = s.watch :=
  State.watch_of_butTrack (State.readmitChannel_butTrack s _)

/-! ### readmitHead -/

@[simp] theorem State.readmitHead_pending (k : Fin 32) : (s.readmitHead k).pending = s.pending :=
  State.pending_of_butTrack (State.readmitHead_butTrack s _)
@[simp] theorem State.readmitHead_pins (k : Fin 32) : (s.readmitHead k).pins = s.pins :=
  State.pins_of_butTrack (State.readmitHead_butTrack s _)
@[simp] theorem State.readmitHead_partTime (k : Fin 32) : (s.readmitHead k).partTime = s.partTime :=
  State.partTime_of_butTrack (State.readmitHead_butTrack s _)
@[simp] theorem State.readmitHead_mode (k : Fin 32) : (s.readmitHead k).mode = s.mode :=
  State.mode_of_butTrack (State.readmitHead_butTrack s _)
@[simp] theorem State.readmitHead_pendingRestart (k : Fin 32) : (s.readmitHead k).pendingRestart = s.pendingRestart :=
  State.pendingRestart_of_butTrack (State.readmitHead_butTrack s _)
@[simp] theorem State.readmitHead_tables (k : Fin 32) : (s.readmitHead k).tables = s.tables :=
  State.tables_of_butTrack (State.readmitHead_butTrack s _)
@[simp] theorem State.readmitHead_tallies (k : Fin 32) : (s.readmitHead k).tallies = s.tallies :=
  State.tallies_of_butTrack (State.readmitHead_butTrack s _)
@[simp] theorem State.readmitHead_fieldPort (k : Fin 32) : (s.readmitHead k).fieldPort = s.fieldPort :=
  State.fieldPort_of_butTrack (State.readmitHead_butTrack s _)
@[simp] theorem State.readmitHead_linePort (k : Fin 32) : (s.readmitHead k).linePort = s.linePort :=
  State.linePort_of_butTrack (State.readmitHead_butTrack s _)
@[simp] theorem State.readmitHead_watch (k : Fin 32) : (s.readmitHead k).watch = s.watch :=
  State.watch_of_butTrack (State.readmitHead_butTrack s _)

/-! ### readmitBroken -/

@[simp] theorem State.readmitBroken_pending (n : Fin 40) : (s.readmitBroken n).pending = s.pending :=
  State.pending_of_butTrack (State.readmitBroken_butTrack s _)
@[simp] theorem State.readmitBroken_pins (n : Fin 40) : (s.readmitBroken n).pins = s.pins :=
  State.pins_of_butTrack (State.readmitBroken_butTrack s _)
@[simp] theorem State.readmitBroken_partTime (n : Fin 40) : (s.readmitBroken n).partTime = s.partTime :=
  State.partTime_of_butTrack (State.readmitBroken_butTrack s _)
@[simp] theorem State.readmitBroken_mode (n : Fin 40) : (s.readmitBroken n).mode = s.mode :=
  State.mode_of_butTrack (State.readmitBroken_butTrack s _)
@[simp] theorem State.readmitBroken_pendingRestart (n : Fin 40) : (s.readmitBroken n).pendingRestart = s.pendingRestart :=
  State.pendingRestart_of_butTrack (State.readmitBroken_butTrack s _)
@[simp] theorem State.readmitBroken_tables (n : Fin 40) : (s.readmitBroken n).tables = s.tables :=
  State.tables_of_butTrack (State.readmitBroken_butTrack s _)
@[simp] theorem State.readmitBroken_tallies (n : Fin 40) : (s.readmitBroken n).tallies = s.tallies :=
  State.tallies_of_butTrack (State.readmitBroken_butTrack s _)
@[simp] theorem State.readmitBroken_fieldPort (n : Fin 40) : (s.readmitBroken n).fieldPort = s.fieldPort :=
  State.fieldPort_of_butTrack (State.readmitBroken_butTrack s _)
@[simp] theorem State.readmitBroken_linePort (n : Fin 40) : (s.readmitBroken n).linePort = s.linePort :=
  State.linePort_of_butTrack (State.readmitBroken_butTrack s _)
@[simp] theorem State.readmitBroken_watch (n : Fin 40) : (s.readmitBroken n).watch = s.watch :=
  State.watch_of_butTrack (State.readmitBroken_butTrack s _)

/-! ### relayExpiry -/

@[simp] theorem State.relayExpiry_pending (k : Fin 32) : (s.relayExpiry k).pending = s.pending :=
  State.pending_of_butTrack (State.relayExpiry_butTrack s _)
@[simp] theorem State.relayExpiry_pins (k : Fin 32) : (s.relayExpiry k).pins = s.pins :=
  State.pins_of_butTrack (State.relayExpiry_butTrack s _)
@[simp] theorem State.relayExpiry_partTime (k : Fin 32) : (s.relayExpiry k).partTime = s.partTime :=
  State.partTime_of_butTrack (State.relayExpiry_butTrack s _)
@[simp] theorem State.relayExpiry_mode (k : Fin 32) : (s.relayExpiry k).mode = s.mode :=
  State.mode_of_butTrack (State.relayExpiry_butTrack s _)
@[simp] theorem State.relayExpiry_pendingRestart (k : Fin 32) : (s.relayExpiry k).pendingRestart = s.pendingRestart :=
  State.pendingRestart_of_butTrack (State.relayExpiry_butTrack s _)
@[simp] theorem State.relayExpiry_tables (k : Fin 32) : (s.relayExpiry k).tables = s.tables :=
  State.tables_of_butTrack (State.relayExpiry_butTrack s _)
@[simp] theorem State.relayExpiry_tallies (k : Fin 32) : (s.relayExpiry k).tallies = s.tallies :=
  State.tallies_of_butTrack (State.relayExpiry_butTrack s _)
@[simp] theorem State.relayExpiry_fieldPort (k : Fin 32) : (s.relayExpiry k).fieldPort = s.fieldPort :=
  State.fieldPort_of_butTrack (State.relayExpiry_butTrack s _)
@[simp] theorem State.relayExpiry_linePort (k : Fin 32) : (s.relayExpiry k).linePort = s.linePort :=
  State.linePort_of_butTrack (State.relayExpiry_butTrack s _)
@[simp] theorem State.relayExpiry_watch (k : Fin 32) : (s.relayExpiry k).watch = s.watch :=
  State.watch_of_butTrack (State.relayExpiry_butTrack s _)

/-! ### acceptRestore -/

@[simp] theorem State.acceptRestore_pending (kind : RestoreKind) (k : Fin 24) : (s.acceptRestore kind k).pending = s.pending :=
  State.pending_of_butTrack (State.acceptRestore_butTrack s _ _)
@[simp] theorem State.acceptRestore_pins (kind : RestoreKind) (k : Fin 24) : (s.acceptRestore kind k).pins = s.pins :=
  State.pins_of_butTrack (State.acceptRestore_butTrack s _ _)
@[simp] theorem State.acceptRestore_partTime (kind : RestoreKind) (k : Fin 24) : (s.acceptRestore kind k).partTime = s.partTime :=
  State.partTime_of_butTrack (State.acceptRestore_butTrack s _ _)
@[simp] theorem State.acceptRestore_mode (kind : RestoreKind) (k : Fin 24) : (s.acceptRestore kind k).mode = s.mode :=
  State.mode_of_butTrack (State.acceptRestore_butTrack s _ _)
@[simp] theorem State.acceptRestore_pendingRestart (kind : RestoreKind) (k : Fin 24) : (s.acceptRestore kind k).pendingRestart = s.pendingRestart :=
  State.pendingRestart_of_butTrack (State.acceptRestore_butTrack s _ _)
@[simp] theorem State.acceptRestore_tables (kind : RestoreKind) (k : Fin 24) : (s.acceptRestore kind k).tables = s.tables :=
  State.tables_of_butTrack (State.acceptRestore_butTrack s _ _)
@[simp] theorem State.acceptRestore_tallies (kind : RestoreKind) (k : Fin 24) : (s.acceptRestore kind k).tallies = s.tallies :=
  State.tallies_of_butTrack (State.acceptRestore_butTrack s _ _)
@[simp] theorem State.acceptRestore_fieldPort (kind : RestoreKind) (k : Fin 24) : (s.acceptRestore kind k).fieldPort = s.fieldPort :=
  State.fieldPort_of_butTrack (State.acceptRestore_butTrack s _ _)
@[simp] theorem State.acceptRestore_linePort (kind : RestoreKind) (k : Fin 24) : (s.acceptRestore kind k).linePort = s.linePort :=
  State.linePort_of_butTrack (State.acceptRestore_butTrack s _ _)
@[simp] theorem State.acceptRestore_watch (kind : RestoreKind) (k : Fin 24) : (s.acceptRestore kind k).watch = s.watch :=
  State.watch_of_butTrack (State.acceptRestore_butTrack s _ _)

/-! ### localRestore -/

@[simp] theorem State.localRestore_pending (k : Fin 24) : (s.localRestore k).pending = s.pending :=
  State.pending_of_butTrack (State.localRestore_butTrack s _)
@[simp] theorem State.localRestore_pins (k : Fin 24) : (s.localRestore k).pins = s.pins :=
  State.pins_of_butTrack (State.localRestore_butTrack s _)
@[simp] theorem State.localRestore_partTime (k : Fin 24) : (s.localRestore k).partTime = s.partTime :=
  State.partTime_of_butTrack (State.localRestore_butTrack s _)
@[simp] theorem State.localRestore_mode (k : Fin 24) : (s.localRestore k).mode = s.mode :=
  State.mode_of_butTrack (State.localRestore_butTrack s _)
@[simp] theorem State.localRestore_pendingRestart (k : Fin 24) : (s.localRestore k).pendingRestart = s.pendingRestart :=
  State.pendingRestart_of_butTrack (State.localRestore_butTrack s _)
@[simp] theorem State.localRestore_tables (k : Fin 24) : (s.localRestore k).tables = s.tables :=
  State.tables_of_butTrack (State.localRestore_butTrack s _)
@[simp] theorem State.localRestore_tallies (k : Fin 24) : (s.localRestore k).tallies = s.tallies :=
  State.tallies_of_butTrack (State.localRestore_butTrack s _)
@[simp] theorem State.localRestore_fieldPort (k : Fin 24) : (s.localRestore k).fieldPort = s.fieldPort :=
  State.fieldPort_of_butTrack (State.localRestore_butTrack s _)
@[simp] theorem State.localRestore_linePort (k : Fin 24) : (s.localRestore k).linePort = s.linePort :=
  State.linePort_of_butTrack (State.localRestore_butTrack s _)
@[simp] theorem State.localRestore_watch (k : Fin 24) : (s.localRestore k).watch = s.watch :=
  State.watch_of_butTrack (State.localRestore_butTrack s _)

/-! ### testHeads -/

@[simp] theorem State.testHeads_pending (f : Frame) : (s.testHeads f).pending = s.pending :=
  State.pending_of_butTrack (State.testHeads_butTrack s _)
@[simp] theorem State.testHeads_pins (f : Frame) : (s.testHeads f).pins = s.pins :=
  State.pins_of_butTrack (State.testHeads_butTrack s _)
@[simp] theorem State.testHeads_partTime (f : Frame) : (s.testHeads f).partTime = s.partTime :=
  State.partTime_of_butTrack (State.testHeads_butTrack s _)
@[simp] theorem State.testHeads_mode (f : Frame) : (s.testHeads f).mode = s.mode :=
  State.mode_of_butTrack (State.testHeads_butTrack s _)
@[simp] theorem State.testHeads_pendingRestart (f : Frame) : (s.testHeads f).pendingRestart = s.pendingRestart :=
  State.pendingRestart_of_butTrack (State.testHeads_butTrack s _)
@[simp] theorem State.testHeads_tables (f : Frame) : (s.testHeads f).tables = s.tables :=
  State.tables_of_butTrack (State.testHeads_butTrack s _)
@[simp] theorem State.testHeads_tallies (f : Frame) : (s.testHeads f).tallies = s.tallies :=
  State.tallies_of_butTrack (State.testHeads_butTrack s _)
@[simp] theorem State.testHeads_fieldPort (f : Frame) : (s.testHeads f).fieldPort = s.fieldPort :=
  State.fieldPort_of_butTrack (State.testHeads_butTrack s _)
@[simp] theorem State.testHeads_linePort (f : Frame) : (s.testHeads f).linePort = s.linePort :=
  State.linePort_of_butTrack (State.testHeads_butTrack s _)
@[simp] theorem State.testHeads_watch (f : Frame) : (s.testHeads f).watch = s.watch :=
  State.watch_of_butTrack (State.testHeads_butTrack s _)

end Sys2Proof.Machine
end

