-- ==== Sys2Proof/Laws/Ports.lean ====
section
/-! SUPPORT. What a port does with a received frame, said once: the offer to the watch unit, what every
checked frame does before it is routed, the operand forms, and a request's way to its action. -/

namespace Sys2Proof.Machine

/-! ## Tallies -/

/-- The saturating increment is the tally of chapter 0. -/
@[simp] theorem satInc_eq (t : Half) : satInc t = oneMore t := by
  unfold satInc oneMore
  have h := t.isLt
  split
  · next h => subst h; rfl
  · next hne =>
    have : t.toNat ≠ 65535 := fun h => hne (by apply BitVec.eq_of_toNat_eq; simpa using h)
    rw [min_eq_right (by omega)]
    apply BitVec.eq_of_toNat_eq
    simp

/-! ## Frames on the wire (R1, R3) -/

/-- The length rule is the table of R3. -/
theorem lengthRule_iff (kind : Byte) (p : List Byte) : lengthRule kind p = true ↔ LengthFits kind p := by
  have h24 : byteAt p 1 = 24#8 ↔ (byteAt p 1).toNat = 24 := ⟨fun h => by simp [h], fun h => BitVec.eq_of_toNat_eq h⟩
  unfold lengthRule LengthFits kindLife kindWheel kindOrder kindRelay kindRequest kindAnswer kindVerdict kindRound kindWatch kindKeep
  by_cases h : kind ∈ ([0x11, 0x12, 0x21, 0x31, 0x41, 0x42, 0x51, 0x52, 0x53, 0x61] : List Byte)
  · simp only [List.mem_cons, List.not_mem_nil, or_false] at h
    rcases h with rfl | rfl | rfl | rfl | rfl | rfl | rfl | rfl | rfl | rfl <;> simp [and_assoc, h24]
  · simp only [List.mem_cons, List.not_mem_nil, or_false, not_or] at h
    obtain ⟨h1, h2, h3, h4, h5, h6, h7, h8, h9, h10⟩ := h
    rw [if_neg h1, if_neg h2, if_neg h3, if_neg h4, if_neg h5, if_neg h6, if_neg h7, if_neg h8, if_neg h9, if_neg h10]
    simp_all

/-- A run is judged by the bytes it carries alone. -/
theorem judgeRun_carries {run : List RxChar} {bytes : List Byte} (h : Carries run bytes) :
    judgeRun run = judgeRun (bytes.map fun b => ⟨b, true⟩) := by
  simp only [judgeRun, Carries] at h ⊢
  simp [List.filter_map, Function.comp_def, h]

/-! ## The watch unit -/

/-- A state that differs in the watch unit alone. -/
theorem State.eq_setWatch {s t : State} (h : t.setWatch s.watch = s) : t = s.setWatch t.watch := by
  rw [← h]
  rfl

/-- A firing changes the watch unit alone. -/
theorem State.fire_frame (s : State) (f : Frame) (e : Fin 4) (w : Watch) : (s.fire f e).setWatch w = s.setWatch w := rfl

/-- Offering a frame changes the watch unit alone. -/
theorem State.offer_frame (s : State) (onLine : Bool) (f : Frame) : (s.offer onLine f).setWatch s.watch = s := by
  have step : ∀ (t : State) (e : Fin 4),
      (if t.watch.entries[e].hits onLine f then t.fire f e else t).setWatch s.watch = t.setWatch s.watch := by
    intro t e
    split <;> rfl
  exact foldl_keeps (fun t : State => t.setWatch s.watch) _ step (List.finRange 4) s

/-- The state after an offer, with the watch unit's change shown. -/
theorem State.offer_eq (s : State) (onLine : Bool) (f : Frame) :
    s.offer onLine f = s.setWatch (s.offer onLine f).watch := State.eq_setWatch (State.offer_frame s onLine f)

/-! ## The line port -/

/-- A checked line frame, offered and alive, is `State.heard`. -/
theorem State.offer_lineAlive (s : State) (f : Frame) : (s.offer true f).lineAlive = s.heard f := by
  unfold State.heard
  rw [State.offer_eq]
  generalize (s.offer true f).watch = w
  rfl

/-- A checked frame at a line port that hears is routed from `State.heard`. -/
theorem State.lineArrival_checked {s : State} (h : s.lineOn) (f : Frame) :
    s.lineArrival (.checked f) = (s.heard f).routeLine f := by
  obtain ⟨h1, h2⟩ := h
  simp [State.lineArrival, State.lineHears, h1, h2, State.lineJudged, State.offer_lineAlive]

/-- A port that does not hear receives nothing. -/
theorem State.lineArrival_deaf {s : State} (h : s.pins.resetLow = true ∨ s.linePort.tx ≠ none) (j : Judged) :
    s.lineArrival j = s := by
  have : s.lineHears = false := by
    rcases h with h | h
    · simp [State.lineHears, h]
    · cases htx : s.linePort.tx with
      | none => exact absurd htx h
      | some o => simp [State.lineHears, htx]
  simp [State.lineArrival, this]

/-- The fields `State.heard` keeps. -/
@[simp] theorem State.heard_pending (s : State) (f : Frame) : (s.heard f).pending = s.pending := rfl
@[simp] theorem State.heard_pins (s : State) (f : Frame) : (s.heard f).pins = s.pins := rfl
@[simp] theorem State.heard_partTime (s : State) (f : Frame) : (s.heard f).partTime = s.partTime := rfl
@[simp] theorem State.heard_mode (s : State) (f : Frame) : (s.heard f).mode = s.mode := rfl
@[simp] theorem State.heard_pendingRestart (s : State) (f : Frame) : (s.heard f).pendingRestart = s.pendingRestart := rfl
@[simp] theorem State.heard_tables (s : State) (f : Frame) : (s.heard f).tables = s.tables := rfl
@[simp] theorem State.heard_tallies (s : State) (f : Frame) : (s.heard f).tallies = s.tallies := rfl
@[simp] theorem State.heard_fieldPort (s : State) (f : Frame) : (s.heard f).fieldPort = s.fieldPort := rfl
@[simp] theorem State.heard_answers (s : State) (f : Frame) : (s.heard f).linePort.answers = s.linePort.answers := rfl
@[simp] theorem State.heard_forward (s : State) (f : Frame) : (s.heard f).linePort.forward = s.linePort.forward := rfl
@[simp] theorem State.heard_heads (s : State) (f : Frame) : (s.heard f).heads = s.heads := rfl
@[simp] theorem State.heard_relayOut (s : State) (f : Frame) : (s.heard f).relayOut = s.relayOut := rfl
@[simp] theorem State.heard_channels (s : State) (f : Frame) : (s.heard f).channels = s.channels := rfl
@[simp] theorem State.heard_sections (s : State) (f : Frame) : (s.heard f).sections = s.sections := rfl
@[simp] theorem State.heard_restoreTimers (s : State) (f : Frame) : (s.heard f).restoreTimers = s.restoreTimers := rfl
@[simp] theorem State.heard_notice (s : State) (f : Frame) : (s.heard f).notice = s.notice := rfl
@[simp] theorem State.heard_lines (s : State) (f : Frame) : (s.heard f).lines = s.lines := rfl

/-! ## The field port -/

/-- A checked field frame, offered and judged for forwarding, is `State.fieldHeard`. -/
theorem State.offer_forwarding (s : State) (f : Frame) : (s.offer false f).forwarding f = s.fieldHeard f := by
  unfold State.fieldHeard
  rw [State.offer_eq]
  generalize (s.offer false f).watch = w
  have hf : State.forwards (s.setWatch w) f = s.forwards f := rfl
  have hst : State.stamped (s.setWatch w) f = s.stamped f := rfl
  unfold State.forwarding
  rw [hf, hst]
  by_cases h : s.forwards f
  · by_cases hl : s.linePort.forward.length < 16
    · have : ¬16 ≤ s.linePort.forward.length := by omega
      simp [h, hl, this, State.pushForward, Config.forwardSpace, State.setLinePort]
    · have : 16 ≤ s.linePort.forward.length := by omega
      simp [h, hl, this, State.pushForward, Config.forwardSpace, State.setLinePort, State.countForwardDropped,
        State.setTallies]
  · simp [h]
    rfl

/-- A checked frame at a field port that hears is evaluated from `State.fieldHeard`. -/
theorem State.fieldArrival_checked {s : State} (h : s.fieldOn) (f : Frame) :
    s.fieldArrival (.checked f) = (s.fieldHeard f).evaluate f := by
  obtain ⟨h1, h2⟩ := h
  simp [State.fieldArrival, State.fieldHears, h1, h2, State.fieldJudged, State.offer_forwarding]

@[simp] theorem State.fieldHeard_partTime (s : State) (f : Frame) : (s.fieldHeard f).partTime = s.partTime := rfl
@[simp] theorem State.fieldHeard_mode (s : State) (f : Frame) : (s.fieldHeard f).mode = s.mode := rfl
@[simp] theorem State.fieldHeard_tables (s : State) (f : Frame) : (s.fieldHeard f).tables = s.tables := rfl
@[simp] theorem State.fieldHeard_heads (s : State) (f : Frame) : (s.fieldHeard f).heads = s.heads := rfl
@[simp] theorem State.fieldHeard_relayOut (s : State) (f : Frame) : (s.fieldHeard f).relayOut = s.relayOut := rfl
@[simp] theorem State.fieldHeard_channels (s : State) (f : Frame) : (s.fieldHeard f).channels = s.channels := rfl
@[simp] theorem State.fieldHeard_sections (s : State) (f : Frame) : (s.fieldHeard f).sections = s.sections := rfl

/-- The slot a node address claims is the one the router finds. -/
theorem State.slotOfNode_claims {s : State} {k : Fin 32} {node : Byte} (h : s.claims k node) :
    s.tables.slotOfNode node = some k := by
  obtain ⟨⟨hu, ha⟩, hlow⟩ := h
  cases hs : s.tables.slotOfNode node with
  | none =>
    have := lowest_eq_none hs k
    simp only [hu, ha, beq_self_eq_true, Bool.and_self] at this
    cases this
  | some j =>
    obtain ⟨hj, hmin⟩ := lowest_eq_some hs
    simp only [Bool.and_eq_true, beq_iff_eq] at hj
    rcases lt_trichotomy j k with hlt | heq | hgt
    · exact absurd hj (hlow j hlt)
    · rw [heq]
    · have := hmin k hgt
      simp only [hu, ha, beq_self_eq_true, Bool.and_self] at this
      cases this

/-- No slot claims a node the router finds no slot for. -/
theorem State.slotOfNode_none {s : State} {node : Byte} (h : ∀ k, ¬s.claims k node) :
    s.tables.slotOfNode node = none := by
  cases hs : s.tables.slotOfNode node with
  | none => rfl
  | some j =>
    obtain ⟨hj, hmin⟩ := lowest_eq_some hs
    simp only [Bool.and_eq_true, beq_iff_eq] at hj
    refine absurd ⟨hj, fun i hi hc => ?_⟩ (h j)
    have := hmin i hi
    simp only [hc.1, hc.2, beq_self_eq_true, Bool.and_self] at this
    cases this

/-! ## The operand forms -/

/-- The LIFE row is a checked frame. -/
theorem judge_life (hdr : Header) (q : Byte) (ts : Half) (a b st : Byte) :
    judgeFrame (lifeOperand hdr q ts a b st) = .checked (lifeOperand hdr q ts a b st) := by
  simp [judgeFrame, lifeOperand, bytes16, Config.maxPayload, lengthRule]

/-- A two-byte field read back from its bytes. -/
theorem be16_bytes (x : Half) : be16 (hi8 x) (lo8 x) = x := by
  simp only [be16, hi8, lo8]
  apply BitVec.eq_of_getElem_eq
  intro i hi
  simp only [BitVec.getElem_append, BitVec.getElem_extractLsb']
  split
  · simp [BitVec.getLsbD_eq_getElem hi]
  · rw [show 8 + (i - 8) = i by omega, BitVec.getLsbD_eq_getElem hi]

/-- The fields of the LIFE row's frame. -/
theorem lifeFields_operand (hdr : Header) (q : Byte) (ts : Half) (a b st : Byte) :
    lifeFields (lifeOperand hdr q ts a b st).payload = ⟨q, ts, a, b, st⟩ := by
  simp only [lifeFields, lifeOperand, bytes16, byteAt, halfAt, be16, hi8, lo8, LifeFields.mk.injEq]
  refine ⟨rfl, ?_, rfl, rfl, rfl⟩
  exact be16_bytes ts
/-- The payload of the WHEEL row's frame after its three first bytes, and of the RELAY row's after its four. -/
theorem triples_flatMap {α : Type} (es : List α) (b : α → Byte) (h : α → Half) :
    triples (es.flatMap fun e => b e :: bytes16 (h e)) = es.map fun e => (b e, h e) := by
  induction es with
  | nil => rfl
  | cons e es ih =>
    simp only [List.flatMap_cons, bytes16, List.cons_append, List.nil_append, triples, List.map_cons, be16_bytes]
    rw [show (es.flatMap fun e => b e :: [hi8 (h e), lo8 (h e)]) = es.flatMap fun e => b e :: bytes16 (h e) from rfl, ih]

/-- The length of a run of three-byte records. -/
theorem length_records {α : Type} (es : List α) (b : α → Byte) (h : α → Half) :
    (es.flatMap fun e => b e :: bytes16 (h e)).length = 3 * es.length := by
  induction es with
  | nil => rfl
  | cons e es ih =>
    simp only [List.flatMap_cons, List.length_append, ih]
    simp only [bytes16, List.length_cons, List.length_nil]
    omega

/-- The WHEEL row with 1 to 6 edge records is a checked frame. -/
theorem judge_wheel (hdr : Header) (q fl : Byte) (es : List EdgeOperand) (h1 : 1 ≤ es.length) (h6 : es.length ≤ 6) :
    judgeFrame (wheelOperand hdr q fl es) = .checked (wheelOperand hdr q fl es) := by
  have hlen := length_records es (fun e => e.edge) (fun e => e.stamp)
  simp only [judgeFrame, wheelOperand, Config.maxPayload, lengthRule, List.length_append, hlen, byteAt]
  simp [kindWheel, kindLife, Nat.mod_eq_of_lt (show es.length < 256 by omega)]
  rw [if_neg (by omega), if_pos ⟨h1, h6⟩]

/-- The edge records of the WHEEL row's frame. -/
theorem wheelEdges_operand (hdr : Header) (q fl : Byte) (es : List EdgeOperand) :
    wheelEdges (wheelOperand hdr q fl es).payload = es := by
  simp only [wheelEdges, wheelOperand, List.cons_append, List.nil_append, List.drop_succ_cons, List.drop_zero,
    triples_flatMap, List.map_map]
  exact List.map_id es

/-- The RELAY row with up to 4 passages is a checked frame. -/
theorem judge_relay (hdr : Header) (q o st : Byte) (ps : List PassageOperand) (h4 : ps.length ≤ 4) :
    judgeFrame (relayOperand hdr q o st ps) = .checked (relayOperand hdr q o st ps) := by
  have hlen := length_records ps (fun p => p.direction) (fun p => p.speed)
  simp only [judgeFrame, relayOperand, Config.maxPayload, lengthRule, List.length_append, hlen, byteAt]
  simp [kindWheel, kindLife, kindOrder, kindRelay, Nat.mod_eq_of_lt (show ps.length < 256 by omega)]
  rw [if_neg (by omega), if_pos h4]

/-- The passages of the RELAY row's frame. -/
theorem relayPassages_operand (hdr : Header) (q o st : Byte) (ps : List PassageOperand) :
    relayPassages (relayOperand hdr q o st ps).payload = ps := by
  simp only [relayPassages, relayOperand, List.cons_append, List.nil_append, List.drop_succ_cons, List.drop_zero,
    triples_flatMap, List.map_map]
  exact List.map_id ps

/-- The KEEP row is a checked frame. -/
theorem judge_keep (hdr : Header) : judgeFrame (keepOperand hdr) = .checked (keepOperand hdr) := rfl

/-- An order row whose parameters fit is a checked frame. -/
theorem judge_order (hdr : Header) (code : Byte) (params : List Byte) (h : params.length ≤ 63) :
    judgeFrame (orderOperand hdr code params) = .checked (orderOperand hdr code params) := by
  simp [judgeFrame, orderOperand, Config.maxPayload, lengthRule, kindLife, kindWheel, kindOrder]
  omega

/-- A request row whose parameters fit is a checked frame. -/
theorem judge_request (hdr : Header) (c : RequestCode) (tag : Byte) (params : List Byte) (h : params.length ≤ 62) :
    judgeFrame (requestOperand hdr c tag params) = .checked (requestOperand hdr c tag params) := by
  simp [judgeFrame, requestOperand, Config.maxPayload, lengthRule, kindLife, kindWheel, kindOrder, kindRelay, kindRequest]
  omega

/-! ## Requests (R163) -/

/-- Every request row is its REQUEST frame at the line port. -/
theorem exec_row (s : State) (c : RequestCode) (hdr : Header) (tag : Byte) (params : List Byte) :
    exec (c.row hdr tag params) s = .next (s.lineArrival (judgeFrame (requestOperand hdr c tag params))) := by
  cases c <;> rfl

/-- No two request codes share a byte. -/
theorem RequestCode.ofByte_byte (c : RequestCode) : RequestCode.ofByte c.byte = some c := by cases c <;> rfl

/-- The lengths of 1.3. -/
theorem RequestCode.lengthOk_iff (c : RequestCode) (n : Nat) : c.lengthOk n = true ↔ c.lengthIs (n + 2) := by
  cases c <;> simp [RequestCode.lengthOk, RequestCode.lengthIs]

/-- The permissions of R164. -/
theorem State.permitted_iff (s : State) (c : RequestCode) (hdr : Header) :
    s.permitted c hdr.srcStation = true ↔ s.allowed c hdr := by
  cases c <;>
    simp [State.permitted, State.allowed, State.fromMaintenance, State.fromInterlocking, isStation] <;>
    (constructor <;> (intro h; rcases h with h | h <;> simp_all [em]))

/-- A request for the part reaches the management unit. -/
theorem State.request_arrives {s : State} {hdr : Header} (h : s.forPart hdr) (h0 : hdr.dstNode = 0) (c : RequestCode)
    (tag : Byte) (params : List Byte) (hl : params.length ≤ 62) :
    exec (c.row hdr tag params) s =
      .next ((s.heard (requestOperand hdr c tag params)).request (requestOperand hdr c tag params)) := by
  rw [exec_row, judge_request _ _ _ _ hl, State.lineArrival_checked h.1]
  have : (s.heard (requestOperand hdr c tag params)).forUs (requestOperand hdr c tag params) = true := by
    simp [State.forUs, requestOperand, h.2]
  simp only [State.routeLine, this]
  simp [requestOperand, h0]

/-- What a request that passes steps 1 to 5 of R163 does: its own checks and action, and the answer. -/
theorem State.request_acts {s : State} {hdr : Header} (h : s.toManagement hdr) (c : RequestCode) (tag : Byte)
    (params : List Byte) (hl : params.length ≤ 62) (hlen : c.lengthIs (params.length + 2)) (hp : s.allowed c hdr) :
    exec (c.row hdr tag params) s =
      .next (((s.heard (requestOperand hdr c tag params)).act c params).1.answered hdr c.byte tag
        ((s.heard (requestOperand hdr c tag params)).act c params).2 (c == .restart)) := by
  obtain ⟨h1, h2, h3, h4⟩ := h
  rw [State.request_arrives h1 h2 c tag params hl]
  have hfull : ¬Config.answerSpace ≤ s.linePort.answers.length := by simp only [Config.answerSpace]; omega
  have hperm := (State.permitted_iff (s.heard (requestOperand hdr c tag params)) c hdr).mpr hp
  have hok := (RequestCode.lengthOk_iff c params.length).mpr hlen
  generalize hu : s.heard (requestOperand hdr c tag params) = u at *
  have ha : u.answersFull = false := by subst hu; simp [State.answersFull, hfull]
  have hr : u.pendingRestart = false := by subst hu; exact h4
  simp only [State.request, ha, hr, State.execute]
  simp [requestOperand, byteAt, RequestCode.ofByte_byte, hok, hperm, State.reply, State.pushAnswer, State.answered,
    State.answerFrame, State.ownFrame, State.ownByte, kindAnswer, State.setLinePort]
end Sys2Proof.Machine
end

