-- ==== Sys2Proof/Laws/Sections.lean ====
section
/-! SUPPORT. What the shared operations on sections, sources and timers can do, each said once. -/

namespace Sys2Proof.Machine

/-! ## Timers and steps -/

theorem Timer.due_iff (t : Timer) (now : Time) : t.due now = true ↔ t.reached now := by
  cases t <;> simp [Timer.due, Timer.reached]

theorem missInc_eq (m : Fin 5) : missInc m = Fin.ofNat 5 (min 4 (m.val + 1)) := by revert m; decide

theorem SourceState.supervised_iff (st : SourceState) : st.supervised = true ↔ st = .normal ∨ st = .late := by
  cases st <;> simp [SourceState.supervised]

theorem SecState.counting_iff (st : SecState) :
    st.counting = true ↔ st = .sweep ∨ st = .occupied ∨ st = .settling ∨ st = .clear := by
  cases st <;> simp [SecState.counting]

/-! ## The arbiter's turns (R11) -/

theorem turn_getElem {n : Nat} (last : Fin n) (i : Nat) (h : i < (turn last).length) :
    ((turn last)[i]).val = (last.val + 1 + i) % n := by simp [turn]

theorem ahead_of_turn {n : Nat} (last : Fin n) (i : Nat) (h : i < (turn last).length) : ahead last (turn last)[i] = i := by
  have hi : i < n := by simpa [turn] using h
  have hl := last.isLt
  unfold ahead
  rw [turn_getElem]
  rcases Nat.lt_or_ge (last.val + 1 + i) n with hc | hc
  · rw [Nat.mod_eq_of_lt hc, show last.val + 1 + i + n - 1 - last.val = i + n by omega, Nat.add_mod_right, Nat.mod_eq_of_lt hi]
  · rw [show (last.val + 1 + i) % n = last.val + 1 + i - n by
        rw [Nat.mod_eq_sub_mod hc, Nat.mod_eq_of_lt (by omega)],
      show last.val + 1 + i - n + n - 1 - last.val = i by omega, Nat.mod_eq_of_lt hi]

theorem mem_turn {n : Nat} (last j : Fin n) : j ∈ turn last := by
  have hj := j.isLt
  have hl := last.isLt
  rw [turn, List.mem_map]
  rcases Nat.lt_or_ge last.val j.val with h | h
  · refine ⟨⟨j.val - last.val - 1, by omega⟩, List.mem_finRange _, ?_⟩
    ext
    simp only
    rw [show last.val + 1 + (j.val - last.val - 1) = j.val by omega, Nat.mod_eq_of_lt hj]
  · refine ⟨⟨j.val + n - last.val - 1, by omega⟩, List.mem_finRange _, ?_⟩
    ext
    simp only
    rw [show last.val + 1 + (j.val + n - last.val - 1) = j.val + n by omega, Nat.add_mod_right, Nat.mod_eq_of_lt hj]

/-- The arbiter's choice is the index that follows in turn. -/
theorem nextInTurn_some {n : Nat} {last k : Fin n} {p : Fin n → Bool} (h : FollowsInTurn last p k) :
    nextInTurn last p = some k := by
  obtain ⟨hk, hmin⟩ := h
  rw [nextInTurn, List.find?_eq_some_iff_getElem]
  obtain ⟨i, hi, rfl⟩ := List.getElem_of_mem (mem_turn last k)
  refine ⟨hk, i, hi, rfl, fun j hj => ?_⟩
  cases hp : p (turn last)[j] with
  | false => rfl
  | true =>
    have := hmin _ hp
    rw [ahead_of_turn, ahead_of_turn] at this
    omega

theorem nextInTurn_none {n : Nat} (last : Fin n) {p : Fin n → Bool} (h : ∀ k, p k = false) : nextInTurn last p = none := by
  rw [nextInTurn, List.find?_eq_none]
  intro k _
  simp [h k]

/-! ## The boundary table (R66) -/

theorem Tables.mem_boundarySources (t : Tables) (k : Fin 24) (n : Fin 40) :
    n ∈ t.boundarySources k ↔ ∃ e : Fin 96, t.boundaries[e].sec = some k ∧ t.boundaries[e].source = n := by
  simp [Tables.boundarySources, List.mem_filterMap]

theorem State.mem_boundarySources (s : State) (k : Fin 24) (n : Fin 40) : n ∈ s.tables.boundarySources k ↔ s.bounds n k :=
  Tables.mem_boundarySources _ _ _

theorem Tables.mem_entriesOfSource (t : Tables) (n : Fin 40) (k : Fin 24) (x : Sense) :
    (k, x) ∈ t.entriesOfSource n ↔
      ∃ e : Fin 96, t.boundaries[e].sec = some k ∧ t.boundaries[e].source = n ∧ t.boundaries[e].sense = x := by
  rw [Tables.entriesOfSource, List.mem_filterMap]
  refine exists_congr fun e => ?_
  cases h : t.boundaries[e].sec with
  | none => simp
  | some j =>
    simp only [List.mem_finRange, true_and, Option.some.injEq]
    split <;> simp_all

theorem State.mem_entries (s : State) (n : Fin 40) (k : Fin 24) : (∃ x, (k, x) ∈ s.tables.entriesOfSource n) ↔ s.bounds n k := by
  simp only [Tables.mem_entriesOfSource, State.bounds]
  exact ⟨fun ⟨_, e, h1, h2, _⟩ => ⟨e, h1, h2⟩, fun ⟨e, h1, h2⟩ => ⟨_, e, h1, h2, rfl⟩⟩

theorem State.allSupervised_iff (s : State) (k : Fin 24) :
    s.allSupervised k = true ↔ ∀ n, s.bounds n k → s.sourceState n = .normal ∨ s.sourceState n = .late := by
  simp only [State.allSupervised, List.all_eq_true, SourceState.supervised_iff, State.mem_boundarySources]

theorem State.allNormal_iff (s : State) (k : Fin 24) :
    s.allNormal k = true ↔ ∀ n, s.bounds n k → s.sourceState n = .normal := by
  simp only [State.allNormal, List.all_eq_true, beq_iff_eq, State.mem_boundarySources]

theorem sourceHead_headSource (k : Fin 32) : sourceHead (headSource k) = some k := by simp [sourceHead, headSource]

theorem sourceHead_eq_some {n : Fin 40} {k : Fin 32} : sourceHead n = some k ↔ headSource k = n := by
  unfold sourceHead headSource
  constructor
  · intro h
    split at h
    · cases h; rfl
    · cases h
  · rintro rfl
    simp

theorem sourceHead_eq_none {n : Fin 40} : sourceHead n = none ↔ channelSource (sourceChannel n) = n := by
  unfold sourceHead channelSource sourceChannel
  rcases Nat.lt_or_ge n.val 32 with h | h
  · simp only [h, dite_true, reduceCtorEq, false_iff]
    intro he
    have := congrArg Fin.val he
    simp only at this
    omega
  · simp only [Nat.not_lt.mpr h, dite_false, true_iff]
    ext
    simp only
    omega

theorem sourceHead_channelSource (c : Fin 8) : sourceHead (channelSource c) = none := by simp [sourceHead, channelSource]

theorem sourceChannel_channelSource (c : Fin 8) : sourceChannel (channelSource c) = c := by ext; simp [sourceChannel, channelSource]

theorem State.sourceState_head (s : State) (k : Fin 32) : s.sourceState (headSource k) = s.heads[k].state := by
  simp [State.sourceState, sourceHead_headSource]

theorem State.sourceState_channel (s : State) (c : Fin 8) : s.sourceState (channelSource c) = s.channels[c].state := by
  simp [State.sourceState, sourceHead_channelSource, sourceChannel_channelSource]

theorem State.sourceState_congr {s t : State} (h : t.heads = s.heads) (h' : t.channels = s.channels) (n : Fin 40) :
    t.sourceState n = s.sourceState n := by
  simp only [State.sourceState, h, h']

theorem State.sourceWarns_iff (s : State) (n : Fin 40) : s.sourceWarns n = true ↔ s.troubles n := by
  unfold State.sourceWarns State.troubles
  rw [Bool.or_eq_true, beq_iff_eq]
  refine or_congr_right ?_
  cases h : sourceHead n with
  | none =>
    simp only [Bool.false_eq_true, false_iff, not_exists, not_and]
    intro j hj
    rw [← sourceHead_eq_some, h] at hj
    cases hj
  | some k =>
    rw [sourceHead_eq_some] at h
    subst h
    simp only [HeadRun.degraded, Bool.or_eq_true, beq_iff_eq]
    constructor
    · exact fun hd => ⟨k, rfl, hd⟩
    · rintro ⟨j, hj, hd⟩
      have : j = k := by
        ext
        simpa [headSource] using congrArg Fin.val hj
      exact this ▸ hd

theorem State.warningOf_iff (s : State) (k : Fin 24) (st : SecState) :
    s.warningOf k st = true ↔ st ≠ .off ∧ ∃ n, s.bounds n k ∧ s.troubles n := by
  simp only [State.warningOf, Bool.and_eq_true, bne_iff_ne, List.any_eq_true, State.mem_boundarySources, State.sourceWarns_iff]

theorem State.inhibited_iff (s : State) (k : Fin 24) : s.inhibited k = true ↔ s.inhibits k := by
  simp [State.inhibited, State.inhibits, List.any_eq_true, and_assoc]

theorem State.directEligible_iff (s : State) (k : Fin 24) : s.directEligible k = true ↔ s.eligible k := by
  unfold State.directEligible State.eligible
  cases s.sections[k].cause with
  | none => simp
  | some c => cases c <;> simp [Cause.eligible, and_assoc]

/-! ## One place writes a section record (R103, R105, R178) -/

theorem State.putSection_sections (s : State) (k : Fin 24) (r : SecRun) : (s.putSection k r).sections = upd s.sections k r := by
  unfold State.putSection
  simp only
  split <;> split <;> split <;> rfl

theorem SecRun.reportable_iff (old new : SecRun) : old.reportable new = true ↔
    new.state ≠ old.state ∨ new.count ≠ old.count ∨ new.cause ≠ old.cause ∨ new.repeated ≠ old.repeated ∨ new.warning ≠ old.warning := by
  simp only [SecRun.reportable, Bool.or_eq_true, bne_iff_ne, ne_eq, or_assoc, @eq_comm _ old.state, @eq_comm _ old.count,
    @eq_comm _ old.cause, @eq_comm _ old.repeated, @eq_comm _ old.warning]

theorem State.putSection_owed (s : State) (k : Fin 24) (r : SecRun) :
    (s.putSection k r).notice.owed = if s.sections[k].reportable r then upd s.notice.owed k true else s.notice.owed := by
  unfold State.putSection
  simp only
  split <;> split <;> split <;> rfl

theorem State.putSection_restoreTimers (s : State) (k : Fin 24) (r : SecRun) :
    (s.putSection k r).restoreTimers =
      if s.sections[k].state = .restoreWait ∧ r.state ≠ .restoreWait then upd s.restoreTimers k none else s.restoreTimers := by
  unfold State.putSection
  simp only
  split <;> split <;> split <;> rfl

theorem State.putSection_lines (s : State) (k : Fin 24) (r : SecRun) :
    (s.putSection k r).lines =
      if s.sections[k].state ≠ r.state then (s.setSection k r).judgeLatches.lines else s.lines := by
  unfold State.putSection
  simp only
  split <;> split <;> split <;> rfl

/-- Two states agree when everything but the sections, and the four things a section moves, agree. -/
theorem State.ext_butSections {s t : State} (h : t.butSections = s.butSections) (h1 : t.sections = s.sections)
    (h2 : t.restoreTimers = s.restoreTimers) (h3 : t.notice.owed = s.notice.owed) (h4 : t.lines = s.lines) : t = s := by
  rcases s with ⟨⟩
  rcases t with ⟨⟩
  rename_i n _ _ _ _ _ _ _ _ _ _ _ _ _ _ _ _ n' _ _
  rcases n with ⟨⟩
  rcases n' with ⟨⟩
  simp only [State.butSections, State.mk.injEq, Notice.mk.injEq] at *
  simp_all

/-- A record put back as it stands changes nothing. -/
theorem State.putSection_same (s : State) (k : Fin 24) : s.putSection k s.sections[k] = s := by
  apply State.ext_butSections (State.putSection_butSections s k _)
  · rw [State.putSection_sections, upd_same]
  · rw [State.putSection_restoreTimers, if_neg (by simp)]
  · rw [State.putSection_owed, if_neg (by simp [SecRun.reportable])]
  · rw [State.putSection_lines, if_neg (by simp)]

/-- A change the verdict trigger does not name, within one state, moves the record alone (R103). -/
theorem State.putSection_quiet (s : State) (k : Fin 24) (r : SecRun) (h : s.sections[k].reportable r = false) :
    s.putSection k r = s.setSection k r := by
  have hs : s.sections[k].state = r.state := by
    simp only [SecRun.reportable, Bool.or_eq_false_iff, bne_eq_false_iff_eq] at h
    exact h.1.1.1.1
  apply State.ext_butSections
  · rw [State.putSection_butSections, State.setSection_butSections]
  · exact State.putSection_sections s k r
  · rw [State.putSection_restoreTimers, if_neg (fun hc => hc.2 (hs ▸ hc.1)), State.setSection_restoreTimers]
  · rw [State.putSection_owed, h, if_neg Bool.false_ne_true, State.setSection_notice]
  · rw [State.putSection_lines, if_neg (fun hc => hc hs), State.setSection_lines]

/-! ## Events spread over a source's sections (R67, R68, R101) -/

/-- A fold of section updates leaves a section no entry names as it is. -/
theorem sections_of_foldl {β : Type} (key : β → Fin 24) (g : State → β → State)
    (h : ∀ s b (k : Fin 24), k ≠ key b → (g s b).sections[k] = s.sections[k]) (k : Fin 24) :
    ∀ (l : List β) (s : State), (∀ b ∈ l, key b ≠ k) → (l.foldl g s).sections[k] = s.sections[k]
  | [], _, _ => rfl
  | b :: l, s, hl => by
    rw [List.foldl_cons, sections_of_foldl key g h k l _ fun b' hb' => hl b' (List.mem_cons_of_mem _ hb')]
    exact h s b k (Ne.symm (hl b (List.mem_cons_self ..)))

theorem State.putSection_get (s : State) (k j : Fin 24) (r : SecRun) :
    (s.putSection k r).sections[j] = if k = j then r else s.sections[j] := by
  rw [State.putSection_sections, upd_get]

theorem State.passageAt_other (s : State) (n : Fin 40) {k j : Fin 24} (b : Bool) (h : j ≠ k) :
    (s.passageAt n k b).sections[j] = s.sections[j] := by
  unfold State.passageAt State.activityAt
  simp only
  split
  · split <;> rw [State.putSection_get, if_neg (Ne.symm h)]
  · rw [State.putSection_get, if_neg (Ne.symm h)]

theorem State.activityAt_other (s : State) (n : Fin 40) {k j : Fin 24} (h : j ≠ k) :
    (s.activityAt n k).sections[j] = s.sections[j] := by
  rw [State.activityAt, State.putSection_get, if_neg (Ne.symm h)]

theorem State.judgeRestore_other (s : State) {k j : Fin 24} (h : j ≠ k) : (s.judgeRestore k).sections[j] = s.sections[j] := by
  unfold State.judgeRestore
  split
  · rw [State.putSection_get, if_neg (Ne.symm h)]
  · rfl

theorem State.judgeWarning_other (s : State) {k j : Fin 24} (h : j ≠ k) : (s.judgeWarning k).sections[j] = s.sections[j] := by
  rw [State.judgeWarning, State.putSection_get, if_neg (Ne.symm h)]

theorem State.sourceEventAt_other (s : State) (n : Fin 40) (e : SourceEvent) {k j : Fin 24} (h : j ≠ k) :
    (s.sourceEventAt n e k).sections[j] = s.sections[j] := by
  unfold State.sourceEventAt
  simp only
  rw [State.judgeWarning_other _ h]
  split
  · rw [State.judgeRestore_other _ h, State.putSection_get, if_neg (Ne.symm h)]
  · rw [State.putSection_get, if_neg (Ne.symm h)]

/-- An event of a source changes no section the source does not bound (R68). -/
theorem State.deliver_other (s : State) (n : Fin 40) (e : SourceEvent) {k : Fin 24} (h : ¬s.bounds n k) :
    (s.deliver n e).sections[k] = s.sections[k] := by
  refine sections_of_foldl (β := Fin 24 × Sense) Prod.fst _ (fun s b j hj => State.sourceEventAt_other s n e hj) k _ s ?_
  rintro ⟨j, x⟩ hb rfl
  exact h ((State.mem_entries s n j).mp ⟨x, hb⟩)

/-- A passage of a source changes no section the source does not bound (R67). -/
theorem State.passage_other (s : State) (n : Fin 40) (d : Direction) {k : Fin 24} (h : ¬s.bounds n k) :
    (s.passage n d).sections[k] = s.sections[k] := by
  refine sections_of_foldl (β := Fin 24 × Sense) Prod.fst _ (fun s b j hj => State.passageAt_other s n _ hj) k _ s ?_
  rintro ⟨j, x⟩ hb rfl
  exact h ((State.mem_entries s n j).mp ⟨x, hb⟩)

/-- A wheel-activity notice of a source changes no section the source does not bound (R101). -/
theorem State.activity_other (s : State) (n : Fin 40) {k : Fin 24} (h : ¬s.bounds n k) :
    (s.activity n).sections[k] = s.sections[k] := by
  refine sections_of_foldl (β := Fin 24 × Sense) Prod.fst _ (fun s b j hj => State.activityAt_other s n hj) k _ s ?_
  rintro ⟨j, x⟩ hb rfl
  exact h ((State.mem_entries s n j).mp ⟨x, hb⟩)

/-! ## A source event at one section, whole (R93, R112, R100) -/

/-- The record after the section's own effect and the restore unit's judgement. -/
theorem State.judgeRestore_sections (s : State) (k : Fin 24) : (s.judgeRestore k).sections =
    if s.sections[k].state = .restoreWait ∧ s.allNormal k then upd s.sections k s.sections[k].restored else s.sections := by
  unfold State.judgeRestore
  split
  · rw [State.putSection_sections]
  · rfl

theorem State.warningOf_congr {s t : State} (h : t.butSections = s.butSections) (k : Fin 24) (st : SecState) :
    t.warningOf k st = s.warningOf k st := by
  have hh : t.heads = s.heads := (congrArg State.heads h :)
  have hc : t.channels = s.channels := (congrArg State.channels h :)
  have ht : t.tables = s.tables := (congrArg State.tables h :)
  have hw : t.sourceWarns = s.sourceWarns := by
    funext n
    simp only [State.sourceWarns, State.sourceState_congr hh hc, hh]
  rw [State.warningOf, State.warningOf, hw, ht]

theorem State.allNormal_congr {s t : State} (h : t.butSections = s.butSections) (k : Fin 24) :
    t.allNormal k = s.allNormal k := by
  have hh : t.heads = s.heads := (congrArg State.heads h :)
  have hc : t.channels = s.channels := (congrArg State.channels h :)
  have ht : t.tables = s.tables := (congrArg State.tables h :)
  simp only [State.allNormal, State.sourceState_congr hh hc, ht]

theorem State.allSupervised_congr {s t : State} (h : t.butSections = s.butSections) (k : Fin 24) :
    t.allSupervised k = s.allSupervised k := by
  have hh : t.heads = s.heads := (congrArg State.heads h :)
  have hc : t.channels = s.channels := (congrArg State.channels h :)
  have ht : t.tables = s.tables := (congrArg State.tables h :)
  simp only [State.allSupervised, State.sourceState_congr hh hc, ht]

/-- The record a source event leaves, but for the warning flag: the section's own effect, then the restore
unit's judgement of a wait (R94 to R98, R112). -/
def State.eventRecord (s : State) (n : Fin 40) (e : SourceEvent) (k : Fin 24) : SecRun :=
  let r := s.sections[k].sourceEvent n e (s.allSupervised k) s.partTime
  if e.toNormal = true ∧ r.state = .restoreWait ∧ s.allNormal k = true then r.restored else r

theorem State.sourceEventAt_get (s : State) (n : Fin 40) (e : SourceEvent) (k : Fin 24) :
    (s.sourceEventAt n e k).sections =
      upd s.sections k { s.eventRecord n e k with warning := s.warningOf k (s.eventRecord n e k).state } := by
  have upd_upd (v : Vector SecRun 24) (x y : SecRun) : upd (upd v k x) k y = upd v k y := by
    refine table_ext _ _ fun i => ?_
    rw [upd_get, upd_get, upd_get]
    split <;> rfl
  have key (t : State) (h : t.butSections = s.butSections) (r : SecRun) (hr : t.sections = upd s.sections k r) :
      (t.judgeWarning k).sections = upd s.sections k { r with warning := s.warningOf k r.state } := by
    have hk : t.sections[k] = r := by rw [hr, upd_get_self]
    rw [State.judgeWarning, State.putSection_sections, State.warningOf_congr h, hk, hr, upd_upd]
  unfold State.sourceEventAt State.eventRecord
  simp only
  cases hn : e.toNormal with
  | false =>
    rw [if_neg Bool.false_ne_true, if_neg (fun h => Bool.false_ne_true h.1)]
    exact key _ (State.putSection_butSections ..) _ (State.putSection_sections ..)
  | true =>
    rw [if_pos rfl]
    refine key _ (by rw [State.judgeRestore_butSections, State.putSection_butSections]) _ ?_
    rw [State.judgeRestore_sections, State.putSection_sections, upd_get_self,
      State.allNormal_congr (State.putSection_butSections s k _)]
    simp only [true_and]
    split
    · rw [upd_upd]
    · rfl

/-! ## Output latches (R178) -/

/-- Once judged, every output latch equals its condition. -/
theorem State.judgeLatches_follow (s : State) : s.judgeLatches.LatchesFollow := by
  intro l
  refine ⟨fun hf => ?_, fun hf => ?_⟩ <;>
    simp_all [State.judgeLatches, State.setLines, State.latchCondition, LineFunction.output, List.any_eq_true]

end Sys2Proof.Machine
end

