-- ==== Sys2Proof/WellFormed.lean ====
section
/-! DEFINITION. Which commands are the event their row names: the operands of a frame row fill a frame of
that kind, a run of the generic rows is one the row stands for. The machine has a meaning for every other
operand too (the port judges what it receives); nothing in Machine/ reads this predicate. -/

namespace Sys2Proof

/-- The run is a checked frame. -/
def runIsChecked (run : List RxChar) : Bool :=
  match judgeRun run with
  | .checked _ => true
  | .damaged _ => false

/-- The parameters of a REQUEST leave room for the code and the tag in 64 payload bytes (1.1, 1.3). -/
def paramsFit (params : List Byte) : Bool := params.length + 2 ≤ Config.maxPayload

/-- The command's operands spell the event its row of the table names. -/
def WellFormed : Instr → Bool
  | .hardwareReset _ _ => true
  | .fieldFrameReceived run => !run.isEmpty
  | .life _ _ _ _ _ _ => true
  | .wheel _ _ _ edges => 1 ≤ edges.length && edges.length ≤ 6
  | .lineFrameReceived run => runIsChecked run
  | .keep _ => true
  | .relay _ _ _ _ passages => passages.length ≤ 4
  | .order _ code params => code != codeTestStart && params.length + 1 ≤ Config.maxPayload
  | .testStart _ params => params.length + 1 ≤ Config.maxPayload
  | .mode _ _ params => paramsFit params
  | .write _ _ params => paramsFit params
  | .read _ _ params => paramsFit params
  | .status _ _ params => paramsFit params
  | .readmit _ _ params => paramsFit params
  | .restart _ _ params => paramsFit params
  | .noticeHold _ _ params => paramsFit params
  | .noticeRelease _ _ params => paramsFit params
  | .watchSet _ _ params => paramsFit params
  | .capture _ _ params => paramsFit params
  | .restoreSweep _ _ params => paramsFit params
  | .restoreDirect _ _ params => paramsFit params
  | .restoreCancel _ _ params => paramsFit params
  | .supervisionTimerExpiry _ => true
  | .channelSupervisionExpiry _ => true
  | .silenceTimerExpiry => true
  | .relayTimerExpiry _ => true
  | .roundTimerExpiry => true
  | .restoreTimerExpiry _ => true
  | .localLineLevelChange _ _ => true
  | .restoreInTimerExpiry _ => true
  | .arbiterTake => true
  | .lineTransmitDone => true
  | .fieldOrderTransmit => true
  | .fieldTransmitDone => true
  | .resetPinLow => true
  | .lineDamagedFrame run => !run.isEmpty && !runIsChecked run

end Sys2Proof
end

