-- ==== Sys2Proof/Tests/Slice0.lean ====
section
/-! SUPPORT. The tests: the checks of WellFormed, the check of R2, one or two steps per command with results
taken from the spec's own worked examples and rules, and for every statement with hypotheses a witness that meets them. -/

namespace Sys2Proof.Tests

open Sys2Proof.Machine

-- One kernel evaluation at a time: each holds a thread and its stack while it runs.
set_option Elab.async false

/-! ## Helpers: the junction of chapter 4.9 -/

/-- A part of the state after an outcome. -/
def got {α : Type} (f : State → α) : Host.Outcome State Fault Refusal → Option α
  | .next t => some (f t)
  | .fault _ => none
  | .refused _ => none

/-- A run of good characters. -/
def chars (bs : List Byte) : List RxChar := bs.map fun b => ⟨b, true⟩

/-- A line frame's header from a station to node 0 of station 12, the junction's own. -/
def from' (station : Byte) : Header := ⟨12, 0, station, 0⟩

/-- A field frame's header from a head address. -/
def head' (node : Byte) : Header := ⟨0, 0, 0, node⟩

/-- The configuration of 4.9. -/
def junctionTables : Tables where
  part := ⟨3, 4, 5, 0, 0, 50, 20, 10, 0xF⟩
  heads := tab fun k => match k.val with
    | 0 => ⟨21, 140, false, .disturb, false, 10, 1, 160, 0⟩
    | 1 => ⟨22, 140, false, .hold, true, 10, 1, 100, 0⟩
    | 2 => ⟨23, 140, false, .hold, true, 10, 1, 100, 0⟩
    | 3 => ⟨24, 140, true, .hold, true, 10, 1, 100, 0⟩
    | 4 => ⟨25, 140, false, .hold, false, 10, 1, 160, 17⟩
    | _ => .reset
  relays := tab fun c => if c.val = 0 then ⟨17, 9, 20, 1, .hold⟩ else .reset
  sections := tab fun k => match k.val with
    | 0 => ⟨true, true, 200, 30⟩
    | 1 => ⟨true, false, 200, 60⟩
    | 2 => ⟨true, true, 200, 30⟩
    | 3 => ⟨true, false, 200, 30⟩
    | _ => .reset
  boundaries := tab fun e => match e.val with
    | 0 => ⟨some 0, 0, .intoOnUp⟩
    | 1 => ⟨some 0, 1, .intoOnDown⟩
    | 2 => ⟨some 1, 1, .intoOnUp⟩
    | 3 => ⟨some 1, 2, .intoOnDown⟩
    | 4 => ⟨some 1, 3, .intoOnDown⟩
    | 5 => ⟨some 2, 2, .intoOnUp⟩
    | 6 => ⟨some 2, 4, .intoOnDown⟩
    | 7 => ⟨some 3, 3, .intoOnUp⟩
    | 8 => ⟨some 3, 32, .intoOnDown⟩
    | _ => .reset
  filters := tab fun e => if e.val = 0 then ⟨22, 0, true, false⟩ else .reset
  lines := tab fun l => match l.val with
    | 0 => ⟨.sectionOut, 1, .normal⟩
    | 1 => ⟨.alarmOut, 0, .normal⟩
    | 2 => ⟨.restoreIn, 1, .normal⟩
    | 3 => ⟨.inhibitIn, 1, .normal⟩
    | _ => .reset

/-- A head in NORMAL, expected sequence 62, anchored at (2,000,000, 8,000,000) (2.7's example). -/
def normalHead : HeadRun :=
  ⟨.normal, some 62, 0, 0, 0, none, some ⟨2000000, 8000000⟩, 0, .ok, .ok, 0, .reset, some 8005000⟩

/-- The junction in RUN with every source NORMAL and every section CLEAR, the link UP. -/
def junction : State :=
  { State.atReset 12 .high with
      partTime := 8005000
      mode := .run
      tables := junctionTables
      linePort := { LinePort.reset with link := .up, silence := some 8020000 }
      heads := tab fun k => if k.val < 5 then normalHead else .reset
      channels := tab fun c => if c.val = 0 then ⟨.normal, some 70, 0, none, .normal, some 8010000⟩ else .reset
      sections := tab fun k => if k.val < 4 then { SecRun.reset with state := .clear } else .reset
      lines := tab fun l => { LineRun.reset with latch := l.val = 0 } }

/-- The junction in CONFIG. -/
def configured : State := { State.atReset 12 .high with tables := junctionTables }

def withHead (s : State) (k : Fin 32) (f : HeadRun → HeadRun) : State := s.setHead k (f s.heads[k])
def withSection (s : State) (k : Fin 24) (f : SecRun → SecRun) : State := s.setSection k (f s.sections[k])

/-- A DISTURBED record with a cause and a disturbed time. -/
def disturbedBy (c : Cause) (t : Time) : SecRun := { SecRun.reset with state := .disturbed, cause := some c, disturbedTime := t }

/-- The answers waiting: request code, tag, result and data of each. -/
def answersOf (s : State) : List (List Byte) := s.linePort.answers.map (·.frame.payload)

/-! ## WellFormed: an ill-formed term for each check -/

theorem test_wf_field_run : WellFormed (.fieldFrameReceived []) = false := by decide
theorem test_wf_line_run : WellFormed (.lineFrameReceived (chars [1, 2, 3])) = false := by decide
theorem test_wf_damaged_run :
    WellFormed (.lineDamagedFrame []) = false ∧ WellFormed (.lineDamagedFrame (chars (keepOperand (from' 3)).wire)) = false := by decide +kernel
theorem test_wf_wheel : WellFormed (.wheel (head' 21) 0 0 []) = false ∧
    WellFormed (.wheel (head' 21) 0 0 (List.replicate 7 ⟨0, 0⟩)) = false := by decide
theorem test_wf_relay : WellFormed (.relay (from' 17) 0 9 0 (List.replicate 5 ⟨0, 0⟩)) = false := by decide
theorem test_wf_order : WellFormed (.order ⟨12, 21, 4, 0⟩ 0x01 []) = false ∧
    WellFormed (.order ⟨12, 21, 4, 0⟩ 0x02 (List.replicate 64 0)) = false ∧
    WellFormed (.testStart ⟨12, 21, 4, 0⟩ (List.replicate 64 0)) = false := by decide
theorem test_wf_request : ∀ c ∈ RequestCode.all, WellFormed (c.row (from' 4) 0 (List.replicate 63 0)) = false := by decide
theorem test_wf_accepts : WellFormed (.keep (from' 3)) = true ∧ WellFormed (.wheel (head' 21) 0 0 (List.replicate 6 ⟨0, 0⟩)) = true ∧
    WellFormed (.lineFrameReceived (chars (keepOperand (from' 3)).wire)) = true := by decide +kernel

/-! ## Reading bytes (chapter 1) -/

/-- R2's check, worked by hand on one byte: with the register at all ones, a byte of 0xFF shifts it to 0xFF00. -/
theorem test_crc_one_byte : crc [0xFF] = 0xFF00 := by decide

/-- The check value of the ASCII digits 1 to 9 that is published for this generator, start value and bit order. -/
theorem test_crc_digits : crc [0x31, 0x32, 0x33, 0x34, 0x35, 0x36, 0x37, 0x38, 0x39] = 0x29B1 := by decide +kernel

/-- Bytes go most significant first; the order of the two stamp bytes of a LIFE payload (1.2). -/
theorem test_life_bytes : (lifeOperand (head' 21) 62 39170 0 0 0).body = [0, 0, 0, 21, 0x11, 6, 62, 0x99, 0x02, 0, 0, 0] := by decide

/-! ## One step per command -/

/-- R176: a strap value of 1 to 239 is the own station, 240 leaves the part unaddressed. -/
theorem test_hardware_reset : got (·.pins.ownStation) (exec (.hardwareReset 239 .low) junction) = some (some 239) ∧
    got (·.pins.ownStation) (exec (.hardwareReset 240 .low) junction) = some none := by decide +kernel

/-- R3: seven bytes are no frame; the field damaged tally counts them. -/
theorem test_field_frame : got (·.tallies.fieldDamaged) (exec (.fieldFrameReceived (chars (List.replicate 7 0))) junction) = some 1 := by
  decide +kernel

/-- 2.7's clock example, LIFE 1: 5,250 against 5,000 ticks is a strike, the anchor moves to (2,005,250, 8,005,000). -/
theorem test_life_strike : got (fun s => (s.heads[0].strikes, s.heads[0].anchor, s.heads[0].state))
    (exec (.life (head' 21) 62 39170 0 0 0) junction) = some (1, some ⟨2005250, 8005000⟩, .normal) := by decide +kernel

/-- 2.5's example: with 65 expected, 64 is a repeat and 66 a gap. -/
theorem test_life_sequence :
    got (fun s => (s.heads[0].expected, s.heads[0].repeats)) (exec (.life (head' 21) 64 39170 0 0 0)
      (withHead junction 0 fun h => { h with expected := some 65 })) = some (some 65, 1) ∧
    got (fun s => (s.heads[0].expected, s.heads[0].fault)) (exec (.life (head' 21) 66 39170 0 0 0)
      (withHead junction 0 fun h => { h with expected := some 65 })) = some (none, some .seqGap) := by decide +kernel

/-- The head of 3.3's and 3.7's example: spacing 140, limit 200, anchor (1,000,000, 5,000,000); relayed here so
that the passage can be read. -/
def measured' : State :=
  { withHead junction 4 fun h => { h with anchor := some ⟨1000000, 5000000⟩, recog := { h.recog with lastEdge := some 1004000 } } with
      partTime := 5020000
      tables := { junctionTables with heads := upd junctionTables.heads 4 ⟨25, 140, false, .hold, false, 10, 1, 200, 17⟩ } }

/-- 3.7: the wheel passes UP at 157 km/h, completed at 1,020,100. -/
theorem test_wheel_passes : got (fun s => (s.heads[4].recog.lastEdge, s.relayOut[4].pending, s.heads[4].recvA))
    (exec (.wheel (head' 25) 62 0 [⟨2, 36500⟩, ⟨3, 36650⟩, ⟨0, 36900⟩, ⟨1, 37060⟩]) measured') =
      some (some 1020100, [⟨.up, 157⟩], 2) := by decide +kernel

/-- 3.7: with the last edge at ts 37,000, Δout is 100: TOO_FAST, no passage, the counts advanced by all four. -/
theorem test_wheel_too_fast : got (fun s => (s.heads[4].fault, s.relayOut[4].pending, s.heads[4].recvB))
    (exec (.wheel (head' 25) 62 0 [⟨2, 36500⟩, ⟨3, 36650⟩, ⟨0, 36900⟩, ⟨1, 37000⟩]) measured') =
      some (some .tooFast, [], 2) := by decide +kernel

/-- R15: a frame to another station is counted misrouted. -/
theorem test_line_frame : got (·.tallies.misrouted)
    (exec (.lineFrameReceived (chars (keepOperand ⟨13, 0, 3, 0⟩).wire)) junction) = some 1 := by decide +kernel

/-- R8: a KEEP takes the link UP and starts the silence timer, 50 times 10 ms from now. -/
theorem test_keep : got (fun s => (s.linePort.link, s.linePort.silence)) (exec (.keep (from' 3)) configured) =
    some (.up, some 25000) := by decide +kernel

/-- R134 and R94: a relay frame reporting AWAITING returns the channel to AWAITING, and S3 is disturbed with
RELAY_FAULT by source 32. -/
theorem test_relay : got (fun s => (s.channels[0].state, s.sections[3].cause, s.sections[3].causeSource))
    (exec (.relay (from' 17) 70 9 1 []) junction) = some (.awaiting, some .relayFault, some 32) := by decide +kernel

/-- R17 and its note: a head order to node 64 has no route. -/
theorem test_order : got answersOf (exec (.order ⟨12, 64, 4, 0⟩ 0x02 []) junction) = some [[0x00, 0x02, 14, 64]] := by decide +kernel

/-- 9.1's example: node 22 is blocked with data 22, 1; node 21 is queued, and H0 in test disturbs S0. -/
theorem test_test_start_blocked : got answersOf (exec (.testStart ⟨12, 22, 4, 0⟩ []) junction) =
    some [[0x00, 0x01, 13, 22, 1]] := by decide +kernel

theorem test_test_start_queued : got (fun s => (s.heads[0].state, s.sections[0].cause, s.sections[0].causeSource, s.sections[1].state,
      s.fieldPort.orders.length)) (exec (.testStart ⟨12, 21, 4, 0⟩ []) junction) =
    some (.inTest, some .headTest, some 0, .clear, 1) := by decide +kernel

/-- R77: the hardware-reset tables fail check 7, at record 0 of the PART table. -/
theorem test_mode_refused : got answersOf (exec (.mode (from' 4) 9 [1]) (State.atReset 12 .high)) =
    some [[0x01, 9, 6, 7, 1, 0]] := by decide +kernel

/-- R165 and R80: the junction enters RUN with every section in use DISTURBED. -/
theorem test_mode_run : got (fun s => (s.mode, s.sections[0].cause, s.sections[4].state, s.heads[4].state))
    (exec (.mode (from' 4) 9 [1]) configured) = some (.run, some .start, .off, .awaiting) := by decide +kernel

/-- 10.4's example: 450 in slot 3 fails at record 3, field 5, and nothing is written; 30 + 3 is above 32. -/
theorem test_write_refused : got answersOf (exec (.write (from' 4) 9 ([2, 0, 4] ++ [21, 0, 140, 2, 10, 1, 0, 160, 0] ++
      [22, 0, 140, 4, 10, 1, 0, 100, 0] ++ [23, 0, 140, 4, 10, 1, 0, 100, 0] ++ [24, 0, 140, 5, 10, 1, 1, 194, 0] ++
      [25, 0, 140, 0, 10, 1, 0, 160, 17])) configured) = some [[0x02, 9, 4, 3, 5]] ∧
    got answersOf (exec (.write (from' 4) 9 ([2, 30, 2] ++ List.replicate 27 0)) configured) = some [[0x02, 9, 3]] := by
  decide +kernel

/-- 10.4's example: slot 5 is written with address 0 and stays unused; 9 bytes are not two records. -/
theorem test_write_taken : got (fun s => (answersOf s, s.tables.heads[5]))
      (exec (.write (from' 4) 9 [2, 5, 0, 0, 0, 200, 0, 10, 1, 0, 100, 0]) configured) =
        some ([[0x02, 9, 0]], ⟨0, 200, false, .hold, false, 10, 1, 100, 0⟩) ∧
    got answersOf (exec (.write (from' 4) 9 ([2, 0, 1] ++ List.replicate 9 0)) configured) = some [[0x02, 9, 5]] := by
  decide +kernel

/-- R169 and 1.4: HEAD record 4 of the junction read back. -/
theorem test_read : got answersOf (exec (.read (from' 9) 9 [2, 4, 0]) junction) =
    some [[0x03, 9, 0, 2, 4, 0, 25, 0, 140, 0, 10, 1, 0, 160, 17]] := by decide +kernel

/-- R170: section 24 is out of range; a head's record opens with its state, NORMAL being 2. -/
theorem test_status : got answersOf (exec (.status (from' 9) 9 [2, 24]) junction) = some [[0x04, 9, 3]] ∧
    got (fun s => (answersOf s).map fun b => b.take 6) (exec (.status (from' 9) 9 [0, 4]) junction) =
      some [[0x04, 9, 0, 0, 4, 2]] := by decide +kernel

/-- R171: source 40 is out of range, a NORMAL source is in the wrong state. -/
theorem test_readmit : got answersOf (exec (.readmit (from' 4) 9 [40]) junction) = some [[0x05, 9, 3]] ∧
    got answersOf (exec (.readmit (from' 4) 9 [32]) junction) = some [[0x05, 9, 7]] := by decide +kernel

/-- R173: RESTART is answered OK and nothing restarts yet. -/
theorem test_restart : got (fun s => (s.pendingRestart, s.mode, answersOf s)) (exec (.restart (from' 4) 9 []) junction) =
    some (true, .run, [[0x06, 9, 0]]) := by decide +kernel

/-- R146: the maintenance station may not hold verdicts. -/
theorem test_notice_hold : got (·.notice.hold) (exec (.noticeHold (from' 3) 9 []) junction) = some .held ∧
    got answersOf (exec (.noticeHold (from' 4) 9 []) junction) = some [[0x07, 9, 1]] := by decide +kernel

/-- R147. -/
theorem test_notice_release : got (·.notice.hold)
    (exec (.noticeRelease (from' 3) 9 []) (junction.setNotice { junction.notice with hold := .held })) = some .free := by decide +kernel

/-- R175: entry 4 is out of range; entry 1 of 9.3's example is set. -/
theorem test_watch_set : got answersOf (exec (.watchSet (from' 4) 9 [4, 2, 0, 22, 0, 0x12, 0, 0, 0, 0]) junction) = some [[0x09, 9, 3]] ∧
    got (·.watch.entries[1]) (exec (.watchSet (from' 4) 9 [1, 1, 1, 0, 255, 0x31, 1, 2, 2, 0]) junction) =
      some ⟨.once, .line, 0, 255, 0x31, some ⟨2, 2, 0⟩⟩ := by decide +kernel

/-- A capture record of a frame of payload length `len`. -/
def kept (len : Nat) : Capture := ⟨0, 8004000, List.replicate (6 + len) 0⟩

/-- 9.3's example: L 15 and L 21 need 61 bytes and both go; with L 18 for the first, only that one goes. -/
theorem test_capture :
    got (fun s => (s.watch.captures.length, (answersOf s).map fun b => b.take 4))
      (exec (.capture (from' 4) 9 [2]) (junction.setWatch { Watch.reset with captures := [kept 15, kept 21, kept 4] })) =
        some (1, [[0x0A, 9, 0, 2]]) ∧
    got (fun s => (s.watch.captures.length, (answersOf s).map fun b => b.take 4))
      (exec (.capture (from' 4) 9 [2]) (junction.setWatch { Watch.reset with captures := [kept 18, kept 21, kept 4] })) =
        some (2, [[0x0A, 9, 0, 1]]) := by decide +kernel

/-- The moment of 6.2's example. -/
def orders : State :=
  { junction with
      partTime := 40000000
      sections := tab fun k => match k.val with
        | 0 => disturbedBy .headLost 39950000
        | 1 => disturbedBy .start 10000000
        | 2 => { SecRun.reset with state := .settling }
        | 3 => { SecRun.reset with state := .restoreWait, restoreKind := some .sweep }
        | _ => .reset
      restoreTimers := tab fun k => if k.val = 3 then some 41000000 else none }

/-- 6.2's example: TOO_SOON, NOT_ELIGIBLE, WRONG_STATE and BUSY. -/
theorem test_restore_direct : [0, 1, 2, 3].map (fun k => got answersOf (exec (.restoreDirect (from' 3) 9 [k]) orders)) =
    [9, 10, 7, 8].map fun r => some [[0x11, 9, r]] := by decide +kernel

/-- 6.2's example: RESTORE_SWEEP for S1 is accepted, and goes on at once, every source being NORMAL (R112). -/
theorem test_restore_sweep : got (fun s => (answersOf s, s.sections[1].state)) (exec (.restoreSweep (from' 3) 9 [1]) orders) =
    some ([[0x10, 9, 0]], .sweep) := by decide +kernel

/-- R116: a wait is cancelled; a section that is not restoring is in the wrong state. -/
theorem test_restore_cancel : got (fun s => (s.sections[3].cause, s.restoreTimers[3])) (exec (.restoreCancel (from' 3) 9 [3]) orders) =
      some (some .cancelled, none) ∧
    got answersOf (exec (.restoreCancel (from' 3) 9 [2]) orders) = some [[0x12, 9, 7]] := by decide +kernel

/-- 2.8's example: one expiry LATE, two LOST under grace 1; S0's head is under DISTURB. -/
theorem test_supervision : got (fun s => (s.heads[0].state, s.heads[0].timer, s.sections[0].state, s.sections[0].warning))
      (exec (.supervisionTimerExpiry 0) junction) = some (.late, some 8010000, .clear, true) ∧
    got (fun s => (s.heads[0].state, s.sections[0].cause)) (exec (.supervisionTimerExpiry 0)
      (withHead junction 0 fun h => { h with state := .late, missed := 1 })) = some (.lost, some .headLost) := by decide +kernel

/-- R136: a channel under HOLD becomes LOST above its grace, and S3 settles (R95). -/
theorem test_channel_supervision : got (fun s => (s.channels[0].state, s.sections[3].state)) (exec (.channelSupervisionExpiry 0)
    { junction with partTime := 8010000, channels := upd junction.channels 0 { junction.channels[0] with state := .late, missed := 1 } }) =
      some (.lost, .settling) := by decide +kernel

/-- R8 and R9: silence takes the link DOWN and drops the forward queue. -/
theorem test_silence : got (fun s => (s.linePort.link, s.linePort.forward)) (exec .silenceTimerExpiry
    { junction with partTime := 8020000, linePort := { junction.linePort with forward := [keepOperand (from' 3)] } }) =
      some (.down, []) := by decide +kernel

/-- R125: a relay frame of H4 is made ready and the timer runs for 20 times 10 ms. -/
theorem test_relay_timer : got (fun s => (s.relayOut[4].ready, s.relayOut[4].timer))
    (exec (.relayTimerExpiry 4) (junction.setRelayOut 4 { RelayOut.reset with timer := some 8005000 })) =
      some (true, some 8015000) := by decide +kernel

/-- R144: a ROUND is made ready and the timer runs for 10 times 100 ms. -/
theorem test_round_timer : got (fun s => (s.notice.roundReady, s.notice.roundTimer)) (exec .roundTimerExpiry junction) =
    some (true, some 8055000) := by decide +kernel

/-- R113: the wait of S3 times out. -/
theorem test_restore_timer : got (fun s => (s.sections[3].cause, s.sections[3].disturbedTime))
    (exec (.restoreTimerExpiry 3) { orders with partTime := 41000000 }) = some (some .restoreTimeout, 41000000) := by decide +kernel

/-- 11.4's example: pressed at T, the line times to T + 25,000; released, it is IDLE. -/
theorem test_level_change : got (fun s => (s.lines[2].activation, s.lines[2].timer)) (exec (.localLineLevelChange 2 .low) junction) =
      some (.timing, some 8030000) ∧
    got (fun s => (s.lines[2].activation, s.lines[2].timer)) (exec (.localLineLevelChange 2 .high)
      (junction.setLine 2 ⟨false, .low, .timing, some 8030000⟩)) = some (.idle, none) := by decide +kernel

/-- 11.4's example: the activation completes, S1 is taken into a sweep restore; with line 3 active it stays DISTURBED. -/
theorem test_restore_in : got (fun s => (s.lines[2].activation, s.sections[1].restoreKind, answersOf s)) (exec (.restoreInTimerExpiry 2)
      (orders.setLine 2 ⟨false, .low, .timing, some 40000000⟩)) = some (.spent, some .sweep, []) ∧
    got (fun s => (s.lines[2].activation, s.sections[1].state)) (exec (.restoreInTimerExpiry 2)
      ((orders.setLine 2 ⟨false, .low, .timing, some 40000000⟩).setLine 3 ⟨false, .low, .idle, none⟩)) =
        some (.spent, .disturbed) := by decide +kernel

/-- 8.4's example: the ROUND of a moment with S0 CLEAR, S1 OCCUPIED, S2 SETTLING, S3 DISTURBED. -/
theorem test_arbiter_round : got (fun s => s.linePort.tx.map (·.frame.payload)) (exec .arbiterTake
    { junction with
        notice := { junction.notice with roundReady := true }
        sections := tab fun k => match k.val with
          | 0 => { SecRun.reset with state := .clear }
          | 1 => { SecRun.reset with state := .occupied, count := 1 }
          | 2 => { SecRun.reset with state := .settling }
          | 3 => disturbedBy .start 0
          | _ => .reset }) = some (some ([1, 24, 6, 4, 5, 1] ++ List.replicate 20 0)) := by decide +kernel

/-- 1.8's example: with S4 and S2 owed and S3 the last sent, the VERDICT taken is S4's. -/
theorem test_arbiter_verdict : got (fun s => s.linePort.tx.map fun o => o.frame.payload.take 1) (exec .arbiterTake
    { junction with
        notice := { junction.notice with owed := tab fun k => k.val == 4 || k.val == 2, roundReady := true }
        linePort := { junction.linePort with lastSection := 3 } }) = some (some [4]) := by decide +kernel

/-- R173: once the answer to a RESTART is sent, the restart takes place: in RUN, cause RESTART. -/
theorem test_line_done : got (fun s => (s.sections[0].cause, s.linePort.link, s.mode)) (exec .lineTransmitDone
    { junction with pendingRestart := true, linePort := { junction.linePort with tx := some ⟨keepOperand (from' 4), true⟩ } }) =
      some (some .restart, .down, .run) := by decide +kernel

/-- R7: the oldest order starts; its transmission ends. -/
theorem test_field_order : got (fun s => (s.fieldPort.orders.length, s.fieldPort.tx.isSome)) (exec .fieldOrderTransmit
    (junction.setFieldPort ⟨[orderOperand ⟨0, 21, 4, 0⟩ 1 [], orderOperand ⟨0, 22, 4, 0⟩ 1 []], none⟩)) = some (1, true) := by decide +kernel

theorem test_field_done : got (·.fieldPort.tx) (exec .fieldTransmitDone
    (junction.setFieldPort ⟨[], some (orderOperand ⟨0, 21, 4, 0⟩ 1 [])⟩)) = some none := by decide +kernel

/-- R181: with the reset pin low every local line pin is released. -/
theorem test_reset_low : junction.drivesLow 0 = true ∧ got (fun s => s.drivesLow 0) (exec .resetPinLow junction) = some false := by
  decide +kernel

/-- R3: a KEEP with one byte too many is damaged and leaves the link alone. -/
theorem test_line_damaged : got (fun s => (s.tallies.lineDamaged, s.linePort.link))
    (exec (.lineDamagedFrame (chars ((keepOperand (from' 3)).wire ++ [0]))) configured) = some (1, .down) := by decide +kernel

/-- Chapter 0, "Time": with no command waiting a tick of part time passes (assumption 4). -/
theorem test_tick : got (·.partTime) (step junction) = some 8005001 := by decide +kernel

/-! ## Witnesses: a state and operands that meet the hypotheses of each statement -/

theorem on_line : junction.lineOn := ⟨rfl, rfl⟩
theorem on_field : junction.fieldOn := ⟨rfl, rfl⟩
theorem for_part (station : Byte) : junction.forPart (from' station) := ⟨on_line, rfl⟩
theorem to_management (station : Byte) : junction.toManagement (from' station) := ⟨for_part station, rfl, by decide, rfl⟩
theorem from_maintenance : junction.fromMaintenance (from' 4) := .inr rfl
theorem from_interlocking : junction.fromInterlocking (from' 3) := ⟨by decide, rfl⟩
theorem configured_management (station : Byte) : configured.toManagement (from' station) :=
  ⟨⟨⟨rfl, rfl⟩, rfl⟩, rfl, by decide, rfl⟩
theorem claims_first : junction.claims 0 21 := by unfold State.claims; decide +kernel
theorem claims_last : junction.claims 4 25 := by unfold State.claims; decide +kernel
theorem claims_none : ∀ k, ¬junction.claims k 63 := by unfold State.claims; decide +kernel
theorem to_supervisor : junction.toSupervisor (head' 21) 0 := ⟨on_field, rfl, claims_first⟩

/-- The junction with one more thing changed at slot 0, which its head keeps reaching. -/
theorem to_supervisor' (f : HeadRun → HeadRun) : (withHead junction 0 f).toSupervisor (head' 21) 0 := ⟨on_field, rfl, claims_first⟩

theorem witness_StepTakesFrontCommand :
    ({ junction with pending := [.arbiterTake, .silenceTimerExpiry] } : State).pending = .arbiterTake :: [.silenceTimerExpiry] ∧
      junction.pending = [] := ⟨rfl, rfl⟩

theorem witness_ResetPinHoldsThePart :
    ({ junction with pins := { junction.pins with resetLow := true } } : State).pins.resetLow = true ∧
      (∀ a b, Instr.arbiterTake ≠ .hardwareReset a b) ∧ Instr.arbiterTake ≠ .resetPinLow ∧
      ∀ l v, Instr.arbiterTake ≠ .localLineLevelChange l v := by simp

/-- R177's table of polarities at line 4 as a SECTION_OUT: which latch sinks the pin. -/
theorem test_polarity_drives : ∀ latch : Bool, ∀ inverted : Bool,
    ({ junction with
        tables := { junctionTables with lines := upd junctionTables.lines 4 ⟨.sectionOut, 0, if inverted then .inverted else .normal⟩ }
        lines := upd junction.lines 4 ⟨latch, .high, .idle, none⟩ } : State).drivesLow 4 = (latch != inverted) := by decide +kernel

/-- Every queue at its size. -/
def fullQueues : State :=
  { junction with
      fieldPort := ⟨List.replicate 8 (keepOperand (from' 3)), none⟩
      linePort := { junction.linePort with
        answers := List.replicate 8 ⟨keepOperand (from' 3), false⟩, forward := List.replicate 16 (keepOperand (from' 3)) }
      watch := { Watch.reset with captures := List.replicate 8 (kept 0), notices := List.replicate 8 (keepOperand (from' 3)) }
      relayOut := tab fun _ => { RelayOut.reset with pending := List.replicate 4 ⟨.up, 0⟩ } }

theorem witness_QueuesStayBounded : fullQueues.QueuesBounded ∧ ∃ t, step fullQueues = .next t :=
  ⟨by unfold State.QueuesBounded; decide +kernel, _, rfl⟩

theorem witness_RestoreTimersStayWithTheirSections : orders.RestoreTimersFollow ∧ ∃ t, step orders = .next t :=
  ⟨by unfold State.RestoreTimersFollow State.ConfigOff; decide +kernel, _, rfl⟩

/-- Counts in every kind of state, one at its ceiling. -/
def counted : State :=
  { orders with sections := tab fun k => match k.val with
      | 0 => { SecRun.reset with state := .occupied, count := 200, inTally := 200 }
      | 1 => { SecRun.reset with state := .sweep, count := 1, inTally := 1, swept := true, restoreKind := some .sweep }
      | 2 => { disturbedBy .countOver 0 with count := 3, inTally := 5, outTally := 2 }
      | 3 => { SecRun.reset with state := .restoreWait, restoreKind := some .direct }
      | _ => .reset }

theorem witness_SectionsStaySound : counted.SectionsSound ∧ ∃ t, step counted = .next t :=
  ⟨by unfold State.SectionsSound State.ConfigOff SecRun.sound; decide +kernel, _, rfl⟩

theorem witness_ClearStaysProven : junction.ClearIsProven ∧ ∃ t, step junction = .next t := by
  refine ⟨?_, _, rfl⟩
  unfold State.ClearIsProven State.ConfigOff
  simp only [← State.mem_boundarySources]
  decide +kernel

theorem witness_LatchesKeepFollowing : junction.LatchesFollow ∧ ∃ t, step junction = .next t :=
  ⟨by unfold State.LatchesFollow; decide +kernel, _, rfl⟩

theorem witness_SourcesStaySound : junction.SourcesSound ∧ ∃ t, step junction = .next t :=
  ⟨by unfold State.SourcesSound HeadRun.sound Channel.sound Recog.sound SourceState.chained; decide +kernel, _, rfl⟩

/-- H1 LATE: S0 and S1 carry the warning. -/
def lateHead : State :=
  { withHead junction 1 fun h => { h with state := .late, missed := 1 } with
      sections := tab fun k => if k.val < 4 then { SecRun.reset with state := .clear, warning := k.val < 2 } else .reset }

theorem witness_WarningsKeepFollowing : lateHead.WarningsFollow ∧ ∃ t, step lateHead = .next t := by
  refine ⟨?_, _, rfl⟩
  unfold State.WarningsFollow State.ConfigOff
  simp only [← State.sourceWarns_iff, ← State.mem_boundarySources]
  decide +kernel

theorem witness_RunTablesStayValid : junction.RunTablesValid ∧ junction.mode = .run ∧ ∃ t, step junction = .next t :=
  ⟨by unfold State.RunTablesValid; decide +kernel, rfl, _, rfl⟩

theorem witness_ValidatedTopology : junctionTables.validate (some 12) = none ∧ junctionTables.heads[4].used = true ∧
    junctionTables.relays[0].used = true ∧ junctionTables.boundaries[0].sec = some 0 ∧
    (junctionTables.entriesOfSource 1).length = 2 ∧ junctionTables.sections[3].inUse = true := by decide +kernel

/-- One set of tables for each check of R71, the junction's with one record spoiled: the check, the table and the
lowest record it names. Check 1 names the lower of two slots of one address, check 4 the second entry of H0. -/
theorem witness_ValidatedTopology_fails :
    ({ junctionTables with heads := upd junctionTables.heads 5 junctionTables.heads[4] } : Tables).validate (some 12) = some ⟨1, 2, 4⟩ ∧
    junctionTables.validate (some 17) = some ⟨2, 3, 0⟩ ∧
    ({ junctionTables with sections := upd junctionTables.sections 3 .reset } : Tables).validate (some 12) = some ⟨3, 5, 7⟩ ∧
    ({ junctionTables with boundaries := upd junctionTables.boundaries 9 ⟨some 2, 0, .intoOnUp⟩ } : Tables).validate (some 12) =
      some ⟨4, 5, 9⟩ ∧
    ({ junctionTables with sections := upd junctionTables.sections 4 junctionTables.sections[3] } : Tables).validate (some 12) =
      some ⟨5, 4, 4⟩ ∧
    ({ junctionTables with lines := upd junctionTables.lines 4 ⟨.sectionOut, 4, .normal⟩ } : Tables).validate (some 12) = some ⟨6, 7, 4⟩ ∧
    ({ junctionTables with part := { junctionTables.part with interlocking := 0 } } : Tables).validate (some 12) = some ⟨7, 1, 0⟩ := by
  decide +kernel

theorem witness_WireFrameReadsBack : (⟨from' 3, 0x99, List.replicate 64 0⟩ : Frame).payload.length ≤ 64 ∧
    LengthFits 0x99 (List.replicate 64 0) ∧ (keepOperand (from' 3)).payload.length ≤ 64 ∧ ¬LengthFits 0x61 (List.replicate 64 0) ∧
    Carries (chars (keepOperand (from' 3)).wire ++ [⟨0x55, false⟩]) (keepOperand (from' 3)).wire ∧
    (7 < (keepOperand (from' 3)).wire.length ∧ Carries (chars ((keepOperand (from' 3)).wire.set 7
      (byteAt (keepOperand (from' 3)).wire 7 ^^^ BitVec.ofNat 8 (2 ^ 7)))) ((keepOperand (from' 3)).wire.set 7
      (byteAt (keepOperand (from' 3)).wire 7 ^^^ BitVec.ofNat 8 (2 ^ 7)))) ∧
    (List.replicate 20 (⟨0, 0⟩ : EdgeOperand)).length ≤ 20 ∧ (List.replicate 20 (⟨0, 0⟩ : PassageOperand)).length ≤ 20 ∧
    (List.replicate 63 (0 : Byte)).length ≤ 63 ∧ (List.replicate 62 (0 : Byte)).length ≤ 62 := by
  unfold Carries
  simp only [← lengthRule_iff]
  decide +kernel

/-- One run for each condition of R3. -/
theorem witness_DamagedFramesAreOnlyCounted : junction.fieldOn ∧ junction.lineOn ∧
    judgeRun (chars (List.replicate 7 0)) = .damaged .short ∧
    judgeRun (chars (List.replicate 8 0)) = .damaged .badCheck ∧
    judgeRun (chars ([12, 0, 3, 0, 0x99, 65] ++ List.replicate 67 0)) = .damaged .longPayload ∧
    judgeRun (chars ((keepOperand (from' 3)).wire ++ [0])) = .damaged .countMismatch ∧
    judgeRun (chars (⟨from' 3, kindKeep, [0]⟩ : Frame).wire) = .damaged .badLength ∧ ¬LengthFits 0x61 [0] :=
  ⟨on_field, on_line, by decide +kernel, by decide +kernel, by decide +kernel, by decide +kernel, by decide +kernel,
    by rw [← lengthRule_iff]; decide⟩

theorem witness_TransmittingPortsAreDeaf :
    (junction.setFieldPort ⟨[], some (keepOperand (from' 3))⟩).fieldPort.tx ≠ none ∧
      (junction.setLinePort { junction.linePort with tx := some ⟨keepOperand (from' 3), false⟩ }).linePort.tx ≠ none := by decide +kernel

/-- A field frame of each treatment R18 names, whole on the wire. -/
theorem witness_FieldFramesAreEvaluated : junction.fieldOn ∧ configured.fieldOn ∧ configured.mode = .config ∧ junction.mode = .run ∧
    junction.claims 0 21 ∧ (∀ k, ¬junction.claims k 63) ∧
    (∀ f ∈ [lifeOperand (head' 21) 62 39170 0 0 0, wheelOperand (head' 21) 62 0 [⟨2, 39170⟩], ⟨head' 21, 0x99, []⟩,
      ⟨head' 63, 0x99, []⟩], judgeRun (chars f.wire) = .checked f) :=
  ⟨on_field, ⟨rfl, rfl⟩, rfl, rfl, claims_first, claims_none, by decide +kernel⟩

/-- Node 22 is filtered, node 21 is not, a LIFE of node 22 is not; the queue one short of full, and full. -/
theorem witness_FieldFramesAreForwarded : junction.fieldOn ∧ fullQueues.fieldOn ∧
    (∀ f ∈ [wheelOperand (head' 22) 62 0 [⟨2, 39170⟩], wheelOperand (head' 21) 62 0 [⟨2, 39170⟩], lifeOperand (head' 22) 62 0 0 0 0],
      judgeRun (chars f.wire) = .checked f) ∧
    junctionTables.part.recorder ≠ 0 ∧ junctionTables.filters[0].enabled = true ∧ junctionTables.filters[0].node = 22 ∧
    junctionTables.filters[0].mask = 0 ∧ junctionTables.filters[0].includeLife = false ∧ junctionTables.filters[3].enabled = false ∧
    ({ fullQueues.linePort with forward := fullQueues.linePort.forward.drop 1 } : LinePort).forward.length < 16 ∧
    16 ≤ fullQueues.linePort.forward.length :=
  ⟨on_field, ⟨rfl, rfl⟩, by decide +kernel, by decide +kernel⟩

/-- A line frame of each treatment R15 to R17 name. -/
theorem witness_LineFramesAreRouted : junction.lineOn ∧ junction.pins.ownStation = some 12 ∧
    (∀ f ∈ [keepOperand ⟨13, 0, 3, 0⟩, requestOperand (from' 4) .restart 1 [], relayOperand (from' 17) 0 9 0 [], keepOperand (from' 3),
      orderOperand (from' 3) 1 [], orderOperand ⟨12, 255, 3, 0⟩ 1 [], keepOperand ⟨12, 1, 3, 0⟩],
      judgeRun (chars f.wire) = .checked f) := ⟨on_line, rfl, by decide +kernel⟩

theorem witness_KeepHoldsTheLinkUp : junction.lineOn ∧ junction.pins.ownStation = some (from' 3).dstStation ∧ (from' 3).dstNode = 0 ∧
    (⟨12, 1, 3, 0⟩ : Header).dstNode ≠ 0 ∧ junction.pins.ownStation ≠ some (⟨13, 0, 3, 0⟩ : Header).dstStation :=
  ⟨on_line, rfl, rfl, by decide, by decide⟩

/-- A timer reached on its tick, not reached a tick earlier, not reached when stopped. -/
theorem reached_boundary : Timer.reached (some 8005000) 8005000 ∧ ¬Timer.reached (some 8005001) 8005000 ∧ ¬Timer.reached none 8005000 :=
  ⟨⟨_, rfl, by decide⟩, by rintro ⟨e, he, h⟩; cases he; revert h; decide, by rintro ⟨e, he, h⟩; cases he⟩

theorem witness_PortTimersExpire : junction.pins.resetLow = false ∧
    (({ junction with linePort := { junction.linePort with silence := some 8005000 } } : State).linePort.silence).reached junction.partTime ∧
    ¬(({ junction with linePort := { junction.linePort with silence := some 8005001 } } : State).linePort.silence).reached junction.partTime ∧
    ((junction.setRelayOut 31 { RelayOut.reset with timer := some 8005000 }).relayOut[31].timer).reached junction.partTime ∧
    ¬(junction.relayOut[0].timer).reached junction.partTime ∧ junction.notice.roundTimer.reached junction.partTime ∧
    ¬({ junction.notice with roundTimer := some 8005001 } : Notice).roundTimer.reached junction.partTime :=
  ⟨rfl, reached_boundary.1, reached_boundary.2.1, reached_boundary.1, reached_boundary.2.2, ⟨_, rfl, by decide⟩, reached_boundary.2.1⟩

/-- Every class of R11 has one frame ready; each later class alone when the earlier are emptied. -/
def allReady : State :=
  { junction with
      linePort := { junction.linePort with
        answers := [⟨keepOperand (from' 4), false⟩], forward := [keepOperand ⟨5, 0, 12, 0⟩], lastSlot := 4, lastSection := 3 }
      relayOut := upd junction.relayOut 4 { RelayOut.reset with ready := true }
      notice := { junction.notice with owed := tab fun k => k.val == 4 || k.val == 2, roundReady := true }
      watch := { Watch.reset with notices := [keepOperand ⟨4, 0, 12, 0⟩] } }

def noAnswers : State := { allReady with linePort := { allReady.linePort with answers := [] } }
def noRelays : State := { noAnswers with relayOut := junction.relayOut }
def noVerdicts : State := { noRelays with notice := { noRelays.notice with hold := .held } }
def noRound : State := { noVerdicts with notice := { noVerdicts.notice with roundReady := false } }
def noNotices : State := { noRound with watch := .reset }

theorem witness_ArbiterTakesInClassOrder :
    (allReady.pins.resetLow = false ∧ allReady.linePort.tx = none ∧ allReady.linePort.link = .up ∧ allReady.pins.ownStation = some 12) ∧
    (allReady.linePort.answers = [⟨keepOperand (from' 4), false⟩] ∧ (keepOperand (from' 4)).hdr.dstStation ≠ 0) ∧
    (noAnswers.linePort.answers = [] ∧ FollowsInTurn noAnswers.linePort.lastSlot (fun k => noAnswers.relayOut[k].ready) 4 ∧
      noAnswers.tables.heads[4].relayOut ≠ 0) ∧
    ((∀ k : Fin 32, noRelays.relayOut[k].ready = false) ∧ noRelays.notice.hold = .free ∧
      FollowsInTurn noRelays.linePort.lastSection (fun k => noRelays.notice.owed[k]) 4 ∧ noRelays.tables.part.interlocking ≠ 0) ∧
    (noVerdicts.notice.hold = .held ∧ (∀ k : Fin 24, junction.notice.owed[k] = false) ∧ noVerdicts.notice.roundReady = true) ∧
    (noRound.notice.roundReady = false ∧ noRound.watch.notices = [keepOperand ⟨4, 0, 12, 0⟩] ∧
      (keepOperand ⟨4, 0, 12, 0⟩).hdr.dstStation ≠ 0 ∧ noRound.tables.part.maintenance ≠ 0) ∧
    (noNotices.watch.notices = [] ∧ noNotices.linePort.forward = [keepOperand ⟨5, 0, 12, 0⟩] ∧ noNotices.tables.part.recorder ≠ 0 ∧
      junction.linePort.forward = []) := by
  unfold FollowsInTurn ahead
  decide +kernel

/-- No station is named: the frame of every class goes to station 0, the answer to a RESTART first. -/
def toNowhere (s : State) : State :=
  { s with
      tables := { junctionTables with
        part := { junctionTables.part with interlocking := 0, maintenance := 0, recorder := 0 }
        heads := upd junctionTables.heads 4 { junctionTables.heads[4] with relayOut := 0 } }
      pendingRestart := true }

/-- With no station named and nothing but lower classes ready, the arbiter discards them all. -/
theorem test_discards_all :
    got (fun t => (t.linePort.tx.isNone, t.linePort.forward, t.watch.notices, t.notice.roundReady, t.relayOut[4].seq, t.notice.owed[4]))
      (exec .arbiterTake (toNowhere noAnswers)) = some (true, [], [], false, 1, false) := by decide +kernel

theorem witness_ArbiterDiscardsAndWaits : junction.pins.resetLow = false ∧ configured.linePort.link = .down ∧
    ((toNowhere allReady).pins.resetLow = false ∧ (toNowhere allReady).linePort.tx = none ∧ (toNowhere allReady).linePort.link = .up ∧
      (toNowhere allReady).pins.ownStation ≠ none) ∧
    ((⟨keepOperand ⟨0, 0, 12, 0⟩, true⟩ : Outgoing).frame.hdr.dstStation = 0 ∧ (toNowhere allReady).pendingRestart = true) ∧
    ((toNowhere noAnswers).linePort.answers = [] ∧
      FollowsInTurn (toNowhere noAnswers).linePort.lastSlot (fun k => (toNowhere noAnswers).relayOut[k].ready) 4 ∧
      (toNowhere noAnswers).tables.heads[4].relayOut = 0) ∧
    ((∀ k : Fin 32, (toNowhere noRelays).relayOut[k].ready = false) ∧ (toNowhere noRelays).tables.part.interlocking = 0 ∧
      (toNowhere noRelays).notice.hold = .free ∧
      FollowsInTurn (toNowhere noRelays).linePort.lastSection (fun k => (toNowhere noRelays).notice.owed[k]) 4) ∧
    ((toNowhere noVerdicts).notice.hold = .held ∧ (toNowhere noVerdicts).notice.roundReady = true) ∧
    ((toNowhere noRound).notice.roundReady = false ∧ (toNowhere noRound).watch.notices = [keepOperand ⟨4, 0, 12, 0⟩] ∧
      (toNowhere noRound).tables.part.maintenance = 0) ∧
    ((toNowhere noNotices).watch.notices = [] ∧ (toNowhere noNotices).linePort.forward = [keepOperand ⟨5, 0, 12, 0⟩] ∧
      (toNowhere noNotices).tables.part.recorder = 0) := by
  unfold FollowsInTurn ahead
  decide +kernel

theorem witness_LineTransmissionsEnd : junction.pins.resetLow = false ∧ junction.linePort.tx = none ∧
    (⟨keepOperand (from' 4), true⟩ : Outgoing).restart = true ∧
    ({ junction with pendingRestart := true, linePort := { junction.linePort with tx := some ⟨keepOperand (from' 4), true⟩ } } : State).linePort.tx =
      some ⟨keepOperand (from' 4), true⟩ ∧ junction.pendingRestart = false := ⟨rfl, rfl, rfl, rfl, rfl⟩

theorem witness_FieldTransmitterSendsOrders : fullQueues.pins.resetLow = false ∧ fullQueues.fieldPort.tx = none ∧
    fullQueues.fieldPort.orders = keepOperand (from' 3) :: List.replicate 7 (keepOperand (from' 3)) ∧ junction.fieldPort.orders = [] :=
  ⟨rfl, rfl, rfl, rfl⟩

/-! ### Head orders and the watch unit -/

/-- An order from the maintenance station to a node. -/
def to' (node : Byte) : Header := ⟨12, node, 4, 0⟩

theorem may_order (node : Byte) : junction.mayOrder (to' node) := .inr (.inr ⟨by decide, rfl⟩)
theorem route_claimed : junction.orderRoute (to' 21) := .inr (.inl ⟨0, by decide +kernel, by decide +kernel⟩)
theorem route_all : junction.orderRoute (to' 255) := .inl rfl
theorem route_none : ¬junction.orderRoute (to' 254) := by unfold State.orderRoute; decide +kernel

theorem witness_HeadOrdersAreJudged : (List.replicate 63 (0 : Byte)).length ≤ 63 ∧ junction.forPart (to' 21) ∧ (to' 21).dstNode ≠ 0 ∧
    ¬junction.mayOrder ⟨12, 21, 5, 0⟩ ∧ junction.mayOrder (to' 21) ∧ ¬junction.orderRoute (to' 254) ∧ junction.orderRoute (to' 21) ∧
    (8 ≤ fullQueues.fieldPort.orders.length ∧ 8 ≤ fullQueues.linePort.answers.length) ∧
    (junction.fieldPort.orders.length < 8 ∧ junction.linePort.answers.length < 8) ∧ (0x02 : Byte) ≠ 0x01 ∧ configured.mode = .config :=
  ⟨by decide, ⟨on_line, rfl⟩, by decide, by unfold State.mayOrder State.fromInterlocking; decide +kernel, may_order 21, route_none,
    route_claimed, by decide, by decide, by decide, rfl⟩

/-- With every section DISTURBED nothing blocks; in the junction H1 is the lowest that blocks a broadcast. -/
theorem witness_TestStartIsIntercepted : junction.forPart (to' 255) ∧ (to' 255).dstNode ≠ 0 ∧ junction.mode = .run ∧
    junction.mayOrder (to' 255) ∧ junction.orderRoute (to' 255) ∧ junction.fieldPort.orders.length < 8 ∧
    (junctionTables.heads[1].guarded = true ∧ junction.bounds 1 0 ∧ junction.sections[0].state = .clear ∧
      junctionTables.heads[0].guarded = false) ∧
    (∀ x : Fin 24, ({ junction with sections := tab fun _ => disturbedBy .start 0 } : State).sections[x].state = .disturbed) ∧
    (junction.heads[0].state.chained ∧ junction.bounds 0 0 ∧ ¬junction.bounds 0 1) :=
  ⟨⟨on_line, rfl⟩, by decide, rfl, may_order 255, route_all, by decide,
    ⟨by decide +kernel, ⟨1, by decide +kernel, by decide +kernel⟩, by decide +kernel, by decide +kernel⟩, by decide +kernel,
    ⟨.inl (by decide +kernel), ⟨0, by decide +kernel, by decide +kernel⟩, by unfold State.bounds; decide +kernel⟩⟩

/-- An entry that a frame of node 22 hits, with a payload test at the last byte, and one that is off. -/
theorem witness_MatchingEntriesFire :
    (⟨.every, .field, 22, 0, 0x12, some ⟨5, 0x99, 0⟩⟩ : WatchEntry).hits false (wheelOperand (head' 22) 62 0 [⟨2, 0x9902⟩]) = false ∧
    (⟨.every, .field, 22, 0, 0x12, some ⟨5, 0x02, 0⟩⟩ : WatchEntry).hits false (wheelOperand (head' 22) 62 0 [⟨2, 0x9902⟩]) = true ∧
    (⟨.every, .field, 22, 0, 0x12, some ⟨6, 0x00, 0⟩⟩ : WatchEntry).hits false (wheelOperand (head' 22) 62 0 [⟨2, 0x9902⟩]) = false ∧
    fullQueues.watch.captures.length = 8 ∧ junction.watch.captures.length < 8 := by decide +kernel

/-! ### Heads -/

/-- Each change of state R40 names, with the head of slot 4, which relays out, so that its neighbour is told. -/
theorem witness_HeadChangesAreDelivered : junctionTables.heads[4].relayOut ≠ 0 ∧
    reportedStatus junction.heads[4].state junction.relayOut[4].broken ≠ reportedStatus .faulty junction.relayOut[4].broken ∧
    junctionTables.heads[0].relayOut = 0 ∧ junction.heads[4].state.chained ∧
    (withHead junction 4 fun h => h.enterTest).heads[4].state = .inTest ∧
    (withHead junction 4 fun h => { h with state := .late }).heads[4].state = .late ∧
    junction.heads[4].healthA ≠ { junction.heads[4] with healthA := .degraded }.healthA :=
  ⟨by decide +kernel, by decide +kernel, by decide +kernel, .inl (by decide +kernel), by decide +kernel, by decide +kernel, by decide +kernel⟩

theorem witness_LifeAdoptsAWaitingHead : (withHead junction 0 HeadRun.enterAwaiting).toSupervisor (head' 21) 0 ∧
    (withHead junction 0 HeadRun.enterAwaiting).heads[0].state = .awaiting ∧ (withHead junction 0 HeadRun.enterTest).heads[0].state = .inTest ∧
    ((0x00 : Byte).getLsbD 4 = false ∧ (0x00 : Byte).getLsbD 5 = false ∧ (0x00 : Byte).getLsbD 6 = false ∧
      (0x00 : Byte).extractLsb' 0 2 = 0 ∧ (0x04 : Byte).extractLsb' 2 2 = 1) ∧
    ((0x20 : Byte).getLsbD 5 = true ∧ (0x20 : Byte).getLsbD 4 = false ∧ (0x10 : Byte).getLsbD 4 = true) ∧
    (0x03 : Byte).extractLsb' 0 2 = 3 :=
  ⟨to_supervisor' _, by decide +kernel, by decide +kernel, by decide, by decide, by decide⟩

theorem witness_SequenceBreaksAreFaults : junction.toSupervisor (head' 21) 0 ∧ 1 ≤ [(⟨2, 0⟩ : EdgeOperand)].length ∧
    (List.replicate 6 (⟨2, 0⟩ : EdgeOperand)).length ≤ 6 ∧ junction.heads[0].state.chained ∧ junction.heads[0].expected = some 62 ∧
    (61 : Byte) = 62 - 1 ∧ ((63 : Byte) ≠ 62 - 1 ∧ (63 : Byte) ≠ 62) ∧ ((255 : Byte) = 0 - 1) ∧
    (withHead junction 0 (HeadRun.enterFaulty · .clock)).heads[0].state = .faulty ∧
    (withHead junction 0 HeadRun.enterAwaiting).heads[0].state = .awaiting :=
  ⟨to_supervisor, by decide, by decide, .inl (by decide +kernel), by decide +kernel, by decide, by decide, by decide, by decide +kernel,
    by decide +kernel⟩

/-- The clock check at its allowance, 206 ticks for 5,000, and one above it; a stale anchor, and one that just is not. -/
theorem witness_LifeIsCheckedInOrder : junction.toSupervisor (head' 21) 0 ∧ junction.heads[0].state.chained ∧
    junction.heads[0].expected = some 62 ∧ junction.heads[0].anchor = some ⟨2000000, 8000000⟩ ∧
    (Anchor.deviation ⟨2000000, 8000000⟩ 8005000 (BitVec.ofNat 16 (2005000 + 206))).natAbs ≤ (8005000 - 8000000 : Time).toNat / 32 + 50 ∧
    ¬(Anchor.deviation ⟨2000000, 8000000⟩ 8005000 (BitVec.ofNat 16 (2005000 + 207))).natAbs ≤ (8005000 - 8000000 : Time).toNat / 32 + 50 ∧
    (8005000 - 8000000 : Time).toNat ≤ 1000000 ∧ 1000000 < (9000001 - 8000000 : Time).toNat ∧
    (0x02 : Byte).extractLsb' 0 2 = 2 ∧ ((0 : Byte) = junction.heads[0].recvA ∧ (1 : Byte) ≠ junction.heads[0].recvA) :=
  ⟨to_supervisor, .inl (by decide +kernel), by decide +kernel, by decide +kernel, by decide +kernel, by decide +kernel, by decide, by decide,
    by decide, by decide +kernel⟩

theorem witness_WheelEdgesAreCounted : junction.toSupervisor (head' 21) 0 ∧ 1 ≤ [(⟨2, 0⟩ : EdgeOperand)].length ∧
    (List.replicate 6 (⟨2, 0⟩ : EdgeOperand)).length ≤ 6 ∧ junction.heads[0].state.chained ∧ junction.heads[0].expected = some 62 ∧
    (0x01 : Byte).getLsbD 0 = true ∧ (0x00 : Byte).getLsbD 0 = false ∧ junction.heads[0].anchor = some ⟨2000000, 8000000⟩ ∧
    1000000 < (({ junction with partTime := 9000001 } : State).partTime - 8000000).toNat ∧ (junction.partTime - 8000000).toNat ≤ 1000000 :=
  ⟨to_supervisor, by decide, by decide, .inl (by decide +kernel), by decide +kernel, by decide, by decide, by decide +kernel, by decide +kernel,
    by decide +kernel⟩

/-- An edge of each kind: before the last edge time (R48), refused, too fast (3.7's B OFF at 1,020,040), taken, and
completing 3.7's wheel with its passage record (R60). -/
theorem witness_WheelCrossingFormsAPassage_edges :
    let c : HeadRec := ⟨26, 140, false, .hold, false, 10, 1, 200, 0⟩
    let leaving : Recog := { Recog.reset with state := .bFromA, offNote := some 1019940 }
    2 ^ 31 ≤ ((1003999 : Time) - 1004000).toNat ∧ ((1004000 : Time) - 1004000).toNat < 2 ^ 31 ∧
    Recog.reset.take 5 c .a false 1019540 = .fault .edgeOrder ∧
    leaving.take 5 c .b false 1020040 = .fault .tooFast ∧
    Recog.reset.take 5 c .a true 1019540 = .taken { Recog.reset with state := .aFromA, onNote := some 1019540 } none ∧
    leaving.take 5 c .b false 1020100 = .taken { leaving with state := .vacant, offNote := none } (some ⟨5, .up, 157, 1020100⟩) := by
  decide +kernel

/-- 3.3's and 3.7's wheel, at H0 of the junction with Δin and Δout at its limit of 158 ticks. -/
theorem witness_WheelCrossingFormsAPassage : junction.toSupervisor (head' 21) 0 ∧ junction.heads[0].state.chained ∧
    junction.heads[0].expected = some 62 ∧ (0x00 : Byte).getLsbD 0 = false ∧ junction.heads[0].anchor = some ⟨2000000, 8000000⟩ ∧
    (junction.partTime - 8000000).toNat ≤ 1000000 ∧ junction.heads[0].recog.state = .vacant ∧ junction.heads[0].recog.lastEdge = none ∧
    (Anchor.place ⟨2000000, 8000000⟩ 8005000 39000 - 2000000).toNat < 2 ^ 31 ∧
    ((0x02 : Byte).getLsbD 0 = false ∧ (0x02 : Byte).getLsbD 1 = true) ∧ ((0x03 : Byte).getLsbD 0 = true ∧ (0x03 : Byte).getLsbD 1 = true) ∧
    ((0x00 : Byte).getLsbD 0 = false ∧ (0x00 : Byte).getLsbD 1 = false) ∧ ((0x01 : Byte).getLsbD 0 = true ∧ (0x01 : Byte).getLsbD 1 = false) ∧
    junctionTables.heads[0].minLead = 158 ∧ junctionTables.heads[0].minLead ≤ ((39158 : Half) - 39000).toNat :=
  ⟨to_supervisor, .inl (by decide +kernel), by decide +kernel, by decide, by decide +kernel, by decide +kernel, by decide +kernel,
    by decide +kernel, by decide +kernel, by decide, by decide, by decide, by decide, by decide +kernel, by decide +kernel⟩

theorem witness_SilenceMakesSourcesLateThenLost : junction.pins.resetLow = false ∧ junction.heads[0].state.chained ∧
    (junction.heads[0].timer).reached junction.partTime ∧
    (Fin.ofNat 5 (min 4 (0 + 1))).val ≤ junctionTables.heads[0].grace.val ∧
    junctionTables.heads[0].grace.val < (Fin.ofNat 5 (min 4 (1 + 1))).val ∧
    ¬(junction.heads[31].state.chained ∧ (junction.heads[31].timer).reached junction.partTime) ∧
    ({ junction with partTime := 8010000 } : State).channels[0].state = .normal ∧
    (junction.channels[0].timer).reached 8010000 ∧ ¬(junction.channels[0].state.chained ∧ (junction.channels[0].timer).reached 8009999) := by
  refine ⟨rfl, .inl (by decide +kernel), ⟨8005000, by decide +kernel, by decide⟩, by decide +kernel, by decide +kernel, ?_, by decide +kernel,
    ⟨8010000, by decide +kernel, by decide⟩, ?_⟩
  · unfold SourceState.chained
    rintro ⟨h, -⟩
    revert h
    decide +kernel
  · rintro ⟨-, e, he, h⟩
    have : e = 8010000 := Option.some.inj (he.symm.trans (by decide +kernel))
    subst this
    revert h
    decide

theorem witness_EdgesArePlaced : (-32768 : Int) ≤ -32768 ∧ (-32768 : Int) ≤ 32767 ∧
    (Anchor.place ⟨1000000, 5000000⟩ 5020000 36500) = 1020000 + BitVec.ofInt 32 (-460) ∧
    (1020000 + BitVec.ofInt 32 (-460) : Time).truncate 16 = (36500 : Half) ∧
    edgeTime ⟨1000000, 5000000⟩ 5020000 (some (1019540, 36500)) 36650 = 1019690 ∧
    edgeTime ⟨1000000, 5000000⟩ 5020000 (some (0, 65500)) 40 = 76 ∧
    (16777215 < ((20000000 : Time) - 3222784).toNat ∧ ((20000000 : Time) - 3222784).toNat < 2 ^ 31) ∧
    ((20000000 : Time) - 3222785).toNat ≤ 16777215 ∧ 2 ^ 31 ≤ ((20000000 : Time) - 20000001).toNat := by decide +kernel

/-- R49: a note 16,777,216 ticks before the anchor is raised by one, one at 16,777,215 is left, as is one after it. -/
theorem test_held_times_raised :
    (⟨.bothFromA, some 3222784, none, some 3222785, 0⟩ : Recog).raise 20000000 = ⟨.bothFromA, some 3222785, none, some 3222785, 0⟩ ∧
    (⟨.bothFromA, some 3222785, none, some 20000001, 0⟩ : Recog).raise 20000000 = ⟨.bothFromA, some 3222785, none, some 20000001, 0⟩ := by
  decide +kernel

/-- The record in each state of R43. -/
theorem witness_EdgesMoveTheWheel :
    ({ Recog.reset with state := .vacant }.state = .vacant) ∧
    ({ Recog.reset with state := .aFromA, onNote := some 1019540 }.onNote = some 1019540) ∧
    ({ Recog.reset with state := .bFromA, offNote := some 1019940 }.offNote = some 1019940) ∧
    (min ((1019665 : Time) - 1019540).toNat 16777215 < (⟨26, 140, false, .hold, false, 10, 1, 200, 0⟩ : HeadRec).minLead) ∧
    ((⟨26, 140, false, .hold, false, 10, 1, 200, 0⟩ : HeadRec).minLead ≤ min ((1019666 : Time) - 1019540).toNat 16777215) := by
  decide +kernel

/-- The ends of the ranges of spacing and speed limit: Δmin 36 and 2,700; a lead time at Δmin and one held. -/
theorem witness_LimitAndSpeedAreRounded :
    (⟨1, 80, false, .hold, false, 10, 1, 400, 0⟩ : HeadRec).minLead = 36 ∧ (⟨1, 300, false, .hold, false, 10, 1, 20, 0⟩ : HeadRec).minLead = 2700 ∧
    (80 ≤ (80 : Half).toNat ∧ (300 : Half).toNat ≤ 300 ∧ 20 ≤ (20 : Half).toNat ∧ (400 : Half).toNat ≤ 400) ∧ (36 ≤ 16777215) := by decide +kernel

/-! ### Sections and restores -/

theorem witness_PassagesReachEachBoundedSection : ((junctionTables.entriesOfSource 1).map (·.1)).Nodup ∧
    junctionTables.boundaries[1].sec = some 0 ∧ junctionTables.boundaries[1].source = 1 ∧ junctionTables.boundaries[2].sec = some 1 ∧
    ¬junction.bounds 1 3 := by
  unfold State.bounds
  decide +kernel

theorem witness_PassagesAreCountedIn : counted.sections[0].state = .occupied ∧ counted.sections[1].state = .sweep ∧
    counted.tables.sections[0].ceiling.toNat < counted.sections[0].count + 1 ∧
    counted.sections[1].count + 1 ≤ counted.tables.sections[1].ceiling.toNat := by decide +kernel

theorem witness_PassagesAreCountedOut : (counted.sections[0].state = .occupied ∧ 2 ≤ counted.sections[0].count) ∧
    (counted.sections[1].state = .sweep ∧ counted.sections[1].count = 1) ∧
    (∀ m ∈ counted.tables.boundarySources 1, counted.sourceState m = .normal ∨ counted.sourceState m = .late) ∧
    ¬(∀ m ∈ counted.tables.boundarySources 1, (withHead counted 3 HeadRun.enterAwaiting).sourceState m = .normal ∨
      (withHead counted 3 HeadRun.enterAwaiting).sourceState m = .late) ∧
    (junction.sections[0].state = .clear ∧ junction.sections[0].count = 0) ∧
    ({ counted.sections[1] with count := 0 } : SecRun).state = .sweep := by decide +kernel

theorem witness_ActivityIsMarked : counted.sections[2].state = .disturbed ∧
    (counted.sections[3].state = .restoreWait ∧ counted.sections[3].restoreKind = some .direct) ∧
    (orders.sections[3].state = .restoreWait ∧ orders.sections[3].restoreKind ≠ some .direct) ∧ counted.sections[4].state = .off := by
  decide +kernel

theorem witness_SourceEventsActOnSections : orders.sections[4].state = .off ∧ orders.sections[0].state = .disturbed ∧
    junction.sections[0].state = .clear ∧ orders.sections[2].state = .settling ∧
    (∀ m ∈ orders.tables.boundarySources 2, orders.sourceState m = .normal) ∧
    (orders.sections[3].state = .restoreWait ∧ orders.sections[3].restoreKind = some .sweep ∧
      ∀ m ∈ orders.tables.boundarySources 3, orders.sourceState m = .normal) ∧
    counted.sections[3].restoreKind = some .direct := by decide +kernel

theorem orders_management : orders.toManagement (from' 3) := ⟨⟨⟨rfl, rfl⟩, rfl⟩, rfl, by decide, rfl⟩
theorem orders_interlocking : orders.fromInterlocking (from' 3) := ⟨by decide, rfl⟩

theorem witness_RestoresAreRefusedInOrder : orders.toManagement (from' 3) ∧ orders.fromInterlocking (from' 3) ∧ configured.mode = .config ∧
    orders.mode = .run ∧ (∀ k : Fin 24, (24 : Byte).toNat = k.val → orders.tables.sections[k].inUse = false) ∧
    ((3 : Byte).toNat = (3 : Fin 24).val ∧ orders.tables.sections[3].inUse = true) ∧
    (orders.setLine 3 ⟨false, .low, .idle, none⟩).inhibits 1 ∧ ¬orders.inhibits 3 ∧ orders.sections[3].state = .restoreWait ∧
    orders.sections[2].state = .settling ∧ orders.sections[0].state = .disturbed ∧
    (({ orders with partTime := 40049999 } : State).partTime - orders.sections[0].disturbedTime).toNat < 100000 ∧
    ¬(({ orders with partTime := 40050000 } : State).partTime - orders.sections[0].disturbedTime).toNat < 100000 ∧ ¬orders.eligible 1 :=
  ⟨orders_management, orders_interlocking, rfl, rfl, by decide +kernel, by decide +kernel, ⟨3, by decide +kernel⟩,
    by unfold State.inhibits; decide +kernel, by decide +kernel, by decide +kernel, by decide +kernel, by decide +kernel, by decide +kernel,
    by unfold State.eligible; decide +kernel⟩

/-- S0's direct restore one second later, with every source NORMAL, and with H0 FAULTY. -/
def later : State := { orders with partTime := 40050000 }
def laterBroken : State := withHead later 0 (HeadRun.enterFaulty · .clock)

theorem witness_RestoresAreAccepted : later.toManagement (from' 3) ∧ later.fromInterlocking (from' 3) ∧ later.restorable .direct 0 ∧
    laterBroken.restorable .sweep 0 ∧ (∀ n ∈ later.tables.boundarySources 0, later.sourceState n = .normal) ∧
    (laterBroken.bounds (headSource 0) 0 ∧ laterBroken.sourceState (headSource 0) = .faulty) :=
  ⟨⟨⟨⟨rfl, rfl⟩, rfl⟩, rfl, by decide, rfl⟩, ⟨by decide, rfl⟩,
    by unfold State.restorable State.inhibits State.eligible; decide +kernel,
    by unfold State.restorable State.inhibits State.eligible; decide +kernel, by decide +kernel,
    ⟨0, by decide +kernel, by decide +kernel⟩, by decide +kernel⟩

theorem witness_RestoresAreCancelledOrTimeOut : orders.toManagement (from' 3) ∧ orders.fromInterlocking (from' 3) ∧
    configured.mode = .config ∧ (∀ k : Fin 24, (24 : Byte).toNat = k.val → orders.tables.sections[k].inUse = false) ∧
    (orders.mode = .run ∧ (3 : Byte).toNat = (3 : Fin 24).val ∧ orders.tables.sections[3].inUse = true ∧ orders.sections[3].state = .restoreWait) ∧
    (orders.sections[2].state ≠ .restoreWait ∧ orders.sections[2].state ≠ .sweep) ∧ orders.pins.resetLow = false ∧
    (orders.restoreTimers[3]).reached 41000000 ∧ ¬(orders.sections[2].state = .restoreWait ∧ (orders.restoreTimers[2]).reached 41000000) :=
  ⟨orders_management, orders_interlocking, rfl, by decide +kernel, by decide +kernel, by decide +kernel, rfl,
    ⟨41000000, by decide +kernel, by decide⟩, fun h => absurd h.1 (by decide +kernel)⟩

/-! ### Relay, requests, lines -/

theorem witness_PassagesJoinThePendingList : junctionTables.heads[0].relayOut = 0 ∧ junctionTables.heads[4].relayOut ≠ 0 ∧
    (junction.relayOut[4].broken = false ∧ junction.relayOut[4].pending.length < 4) ∧
    ({ RelayOut.reset with pending := List.replicate 3 ⟨.up, 0⟩ } : RelayOut).pending.length < 4 ∧ 4 ≤ fullQueues.relayOut[4].pending.length ∧
    ({ RelayOut.reset with broken := true } : RelayOut).broken = true := by decide +kernel

theorem witness_RelayFramesActOnTheirChannel : (List.replicate 4 (⟨0, 38⟩ : PassageOperand)).length ≤ 4 ∧ junction.forPart (from' 17) ∧
    (from' 17).dstNode = 0 ∧ configured.mode = .config ∧ junction.mode = .run ∧
    (junctionTables.relays[0].used = true ∧ junctionTables.relays[0].station = 17 ∧ junctionTables.relays[0].headAddress = 9 ∧
      ∀ d : Fin 8, d < 0 → ¬(junctionTables.relays[d].used = true)) ∧
    (∀ c : Fin 8, ¬(junctionTables.relays[c].used = true ∧ junctionTables.relays[c].station = 17 ∧ junctionTables.relays[c].headAddress = 8)) ∧
    (junction.channels[0].state.chained ∧ junction.channels[0].expected = some 70) ∧ (69 : Byte) = 70 - 1 ∧
    ((71 : Byte) ≠ 70 ∧ (71 : Byte) ≠ 70 - 1) ∧ 2 ≤ (2 : Byte).toNat ∧ configured.channels[0].state = .off ∧
    junction.channels[0].enterAwaiting.state = .awaiting :=
  ⟨by decide, for_part 17, rfl, rfl, rfl, by decide +kernel, by decide +kernel, ⟨.inl (by decide +kernel), by decide +kernel⟩, by decide, by decide,
    by decide, by decide +kernel, rfl⟩

theorem witness_RequestsAreJudgedInOrder : junction.forPart (from' 4) ∧ (from' 4).dstNode = 0 ∧ (List.replicate 62 (0 : Byte)).length ≤ 62 ∧
    8 ≤ fullQueues.linePort.answers.length ∧ (junction.linePort.answers.length < 8 ∧ junction.pendingRestart = false) ∧
    ¬RequestCode.mode.lengthIs (0 + 2) ∧ RequestCode.mode.lengthIs (1 + 2) ∧ ¬junction.allowed .mode (from' 3) ∧
    (∀ c : RequestCode, c.byte ≠ 0x0B) ∧
    judgeRun (chars (⟨from' 4, 0x41, [0x0B, 9]⟩ : Frame).wire) = .checked ⟨from' 4, 0x41, [0x0B, 9]⟩ :=
  ⟨for_part 4, rfl, by decide, by decide, ⟨by decide, rfl⟩, by simp [RequestCode.lengthIs], rfl,
    by unfold State.allowed State.fromMaintenance; decide +kernel, by intro c; cases c <;> decide, by decide +kernel⟩

theorem witness_RunIsEntered : configured.toManagement (from' 4) ∧ configured.fromMaintenance (from' 4) ∧ configured.mode = .config ∧
    configured.tables.validate configured.pins.ownStation = none ∧
    (State.atReset 12 .high).tables.validate (some 12) = some ⟨7, 1, 0⟩ ∧ configured.tables.sections[3].inUse = true ∧
    configured.tables.sections[4].inUse = false :=
  ⟨configured_management 4, .inr rfl, rfl, by decide +kernel, by decide +kernel, by decide +kernel, by decide +kernel⟩

theorem witness_ConfigIsEntered : junction.toManagement (from' 4) ∧ junction.fromMaintenance (from' 4) ∧ junction.mode = .run ∧
    configured.mode = .config ∧ 2 ≤ (2 : Byte).toNat := ⟨to_management 4, from_maintenance, rfl, rfl, by decide⟩

theorem witness_WritesReplaceRecords : configured.toManagement (from' 4) ∧ configured.fromMaintenance (from' 4) ∧ configured.mode = .config ∧
    junction.mode = .run ∧ (List.replicate 59 (0 : Byte)).length ≤ 59 ∧ TableId.ofByte 8 = none ∧ TableId.ofByte 7 = some .line ∧
    ([0, 0] : List Byte).length ≠ (0 + 1) * TableId.line.size ∧
    (([0, 0, 0] : List Byte).length = (0 + 1) * TableId.line.size ∧ TableId.line.entries < 8 + (0 + 1) ∧ 7 + (0 + 1) ≤ TableId.line.entries) ∧
    configured.tables.write .line 7 1 [5, 0, 0] = .error (0, 0) ∧ (∃ t, configured.tables.write .line 7 1 [4, 23, 1] = .ok t) :=
  ⟨configured_management 4, .inr rfl, rfl, rfl, by decide, by decide, by decide, by decide, by decide, rfl, _, rfl⟩

/-- The record of 10.5's example with a speed limit of 450 (field 5), with its flags out of range too (field 2, the
lower), and corrected; a pass window that ends before it begins is field 4 (R168). -/
theorem witness_WrittenFieldsAreChecked : 0 < 2 ∧ (List.replicate 18 (0 : Byte)).length = 2 * TableId.head.size ∧ 30 + 2 ≤ TableId.head.entries ∧
    (∀ f, junctionTables.write .head 3 1 [24, 0, 140, f, 10, 1, 0x01, 0xC2, 0] = .error (0, if f.toNat ≤ 7 then 5 else 2)) ∧
    TableId.head.outOfRange [24, 0, 140, 1, 10, 1, 0x01, 0xC2, 0] 5 ∧ TableId.part.outOfRange [3, 4, 5, 2, 1, 50, 20, 10, 0, 0, 15, 0] 4 ∧
    (∃ t, junctionTables.write .head 3 1 [24, 0, 140, 1, 10, 1, 0, 100, 0] = .ok t) ∧
    TableId.boundary.outOfRange [24, 0, 0] 0 ∧ TableId.boundary.outOfRange [254, 0, 0] 0 ∧ ¬TableId.boundary.outOfRange [255, 0, 0] 0 :=
  ⟨by decide, by decide, by decide, by decide +kernel, by simp only [TableId.outOfRange]; decide, by simp only [TableId.outOfRange]; decide,
    ⟨_, rfl⟩, by simp only [TableId.outOfRange]; decide, by simp only [TableId.outOfRange]; decide, by simp only [TableId.outOfRange]; decide⟩

theorem witness_WrittenRecordsReadBack : 0 < 1 ∧ ([4, 23, 1] : List Byte).length = 1 * TableId.line.size ∧ 7 + 1 ≤ TableId.line.entries ∧
    (∃ t, junctionTables.write .line 7 1 [4, 23, 1] = .ok t) ∧
    (∃ t, junctionTables.write .part 0 1 [3, 4, 5, 1, 63, 50, 20, 10, 0, 0, 15, 7] = .ok t) :=
  ⟨by decide, by decide, by decide, ⟨_, rfl⟩, _, rfl⟩

theorem witness_ReadsChangeNothing : junction.toManagement (from' 9) ∧ TableId.ofByte 0 = none ∧ TableId.ofByte 2 = some .head ∧
    TableId.head.entries < 31 + (1 + 1) ∧ (25 + (6 + 1) ≤ TableId.head.entries ∧ 58 < (6 + 1) * TableId.head.size) ∧
    (26 + (5 + 1) ≤ TableId.head.entries ∧ (5 + 1) * TableId.head.size ≤ 58) ∧ 4 < (5 : Byte).toNat ∧
    (31 < (32 : Byte).toNat ∧ (31 : Byte).toNat = (31 : Fin 32).val) ∧ (7 < (8 : Byte).toNat ∧ (7 : Byte).toNat = (7 : Fin 8).val) ∧
    (23 < (24 : Byte).toNat ∧ (23 : Byte).toNat = (23 : Fin 24).val) :=
  ⟨to_management 9, by decide, by decide, by decide, by decide, by decide, by decide, by decide, by decide, by decide⟩

/-- A line that is no output, for the latch clauses of the soft restart, the mode changes and WRITE (R177). -/
theorem witness_quiet_line : junctionTables.lines[2].function ≠ .sectionOut ∧ junctionTables.lines[2].function ≠ .alarmOut := by decide +kernel

theorem witness_ReadmitReturnsBrokenSources : laterBroken.toManagement (from' 4) ∧ laterBroken.fromMaintenance (from' 4) ∧
    40 ≤ (40 : Byte).toNat ∧ ((39 : Byte).toNat = (39 : Fin 40).val) ∧ configured.mode = .config ∧ laterBroken.mode = .run ∧
    (laterBroken.sourceState 1 ≠ .faulty ∧ laterBroken.sourceState 1 ≠ .lost) ∧
    ((0 : Fin 40) = headSource 0 ∧ laterBroken.heads[0].state = .faulty) ∧
    ((32 : Fin 40) = channelSource 0 ∧ (junction.channels[0].enterFaulty .seqGap).state = .faulty) :=
  ⟨⟨⟨⟨rfl, rfl⟩, rfl⟩, rfl, by decide, rfl⟩, .inr rfl, by decide, by decide, rfl, rfl, by decide +kernel, by decide +kernel, by decide +kernel⟩

theorem witness_RestartAndHoldAreTaken : junction.toManagement (from' 4) ∧ junction.fromMaintenance (from' 4) ∧
    junction.toManagement (from' 3) ∧ junction.fromInterlocking (from' 3) :=
  ⟨to_management 4, from_maintenance, to_management 3, from_interlocking⟩

/-- Two captures that just fit in 61 bytes (L 15 and L 21), two that do not (L 15 and L 22). -/
theorem witness_WatchSetAndCaptureAreTaken : junction.toManagement (from' 4) ∧ junction.fromMaintenance (from' 4) ∧
    (junctionTables.part.maintenance ≠ 0 ∧ junctionTables.part.maintenance = (from' 4).srcStation) ∧ 3 < (4 : Byte).toNat ∧
    ((3 : Byte).toNat = (3 : Fin 4).val ∧ (63 : Byte).toNat = (63 : Fin 64).val) ∧ ((3 : Byte) ≠ 1 ∧ (3 : Byte) ≠ 2) ∧
    (junction.heard (requestOperand (from' 4) .capture 9 [2])).watch.captures = [] ∧
    1 + (6 + (kept 15).bytes.length) + (6 + (kept 21).bytes.length) ≤ 61 ∧
    61 < 1 + (6 + (kept 15).bytes.length) + (6 + (kept 22).bytes.length) :=
  ⟨to_management 4, from_maintenance, by decide, by decide, by decide, by decide, by decide +kernel, by decide, by decide⟩

/-- Line 2 of the junction, IDLE, and timing to its expiry, with S1 ready for a sweep, and inhibited by line 3. -/
theorem witness_RestoreInLinesActivate : junction.pins.resetLow = false ∧ junction.tables.lines[2].function = .restoreIn ∧
    junction.lines[2].board ≠ .low ∧ junction.lines[2].activation = .idle ∧ junction.tables.lines[0].function ≠ .restoreIn ∧
    (Timer.reached (some 40000000) orders.partTime) ∧ orders.tables.lines[2].sec = 1 ∧ orders.restorable .sweep 1 ∧
    ¬(orders.setLine 3 ⟨false, .low, .idle, none⟩).restorable .sweep 1 :=
  ⟨rfl, by decide +kernel, by decide +kernel, by decide +kernel, by decide +kernel, ⟨_, rfl, by decide⟩, by decide +kernel,
    by unfold State.restorable State.inhibits State.eligible; decide +kernel,
    by unfold State.restorable State.inhibits State.eligible; decide +kernel⟩

end Sys2Proof.Tests
end

section
/-! SUPPORT. What one step can do, said once: the event a step takes, and the cases of each port's handling of a
received frame. Every invariant is proved along these cases. -/

namespace Sys2Proof.Machine

/-! ## The event a step takes -/

/-- What the command at the front of the queue, or the tick of an empty queue, makes of the state. The events inside
the part happen while the reset pin is high (R181). -/
inductive Event (s : State) : State → Prop where
  | idle : Event s s
  | tick : Event s (s.setPartTime (s.partTime + 1))
  | hardwareReset (straps : Byte) (ratePin : PinLevel) : Event s (s.hardwareReset straps ratePin)
  | resetLow : Event s s.resetLow
  | levelChange (l : Fin 8) (v : PinLevel) : Event s (s.levelChange l v)
  | fieldArrival (j : Judged) : Event s (s.fieldArrival j)
  | lineArrival (j : Judged) : Event s (s.lineArrival j)
  | headExpiry (k : Fin 32) : Event s (s.headExpiry k)
  | channelExpiry (c : Fin 8) : Event s (s.channelExpiry c)
  | silenceExpiry : Event s s.silenceExpiry
  | relayExpiry (k : Fin 32) : Event s (s.relayExpiry k)
  | roundExpiry : Event s s.roundExpiry
  | restoreExpiry (k : Fin 24) : Event s (s.restoreExpiry k)
  | activationExpiry (l : Fin 8) : Event s (s.activationExpiry l)
  | arbiterTurn : Event s s.arbiterTurn
  | lineSent : Event s s.lineSent
  | startOrder : Event s s.startOrder
  | orderSent : Event s s.orderSent

theorem Event.whenUp {s t : State} (h : Event s t) : Event s (s.whenUp t) := by
  unfold State.whenUp
  split
  · exact .idle
  · exact h

/-- Every command is one event. -/
theorem exec_event {c : Instr} {s t : State} (h : exec c s = .next t) : Event s t := by
  cases c <;> injection h with h <;> subst h
  case hardwareReset => exact .hardwareReset _ _
  case resetPinLow => exact .resetLow
  case localLineLevelChange => exact .levelChange _ _
  case fieldFrameReceived | life | wheel => exact .fieldArrival _
  case supervisionTimerExpiry => exact (Event.headExpiry _).whenUp
  case channelSupervisionExpiry => exact (Event.channelExpiry _).whenUp
  case silenceTimerExpiry => exact Event.silenceExpiry.whenUp
  case relayTimerExpiry => exact (Event.relayExpiry _).whenUp
  case roundTimerExpiry => exact Event.roundExpiry.whenUp
  case restoreTimerExpiry => exact (Event.restoreExpiry _).whenUp
  case restoreInTimerExpiry => exact (Event.activationExpiry _).whenUp
  case arbiterTake => exact Event.arbiterTurn.whenUp
  case lineTransmitDone => exact Event.lineSent.whenUp
  case fieldOrderTransmit => exact Event.startOrder.whenUp
  case fieldTransmitDone => exact Event.orderSent.whenUp
  all_goals exact .lineArrival _

/-- Every step is one event at the state with the command taken from its queue. -/
theorem step_event {s t : State} (h : step s = .next t) : Event s.popped t := by
  unfold step at h
  split at h
  · next hp =>
    have hs : s.popped = s := by rw [State.popped, hp, List.tail_nil, ← hp]
    injection h with h
    rw [hs, ← h]
    exact Event.tick.whenUp
  · exact exec_event h

/-- A property every event keeps, whatever waits in the command queue, is kept by every step. -/
theorem step_preserves {P : State → Prop} (hpop : ∀ s : State, P s → P s.popped)
    (hev : ∀ s t : State, P s → Event s t → P t) {s t : State} (hs : P s) (h : step s = .next t) : P t :=
  hev _ _ (hpop s hs) (step_event h)

/-! ## A frame at the line port -/

theorem State.lineHears_iff (s : State) : s.lineHears = true ↔ s.lineOn := by
  simp [State.lineHears, State.lineOn, Option.isNone_iff_eq_none]

theorem State.fieldHears_iff (s : State) : s.fieldHears = true ↔ s.fieldOn := by
  simp [State.fieldHears, State.fieldOn, Option.isNone_iff_eq_none]

/-- What a frame at the line port can do: nothing at a deaf port, a damaged one counted, a checked one routed. -/
theorem State.lineArrival_cases {P : State → Prop} (s : State) (j : Judged) (deaf : P s) (damaged : P s.countLineDamaged)
    (checked : ∀ f, s.lineOn → P ((s.heard f).routeLine f)) : P (s.lineArrival j) := by
  by_cases hon : s.lineOn
  · cases j with
    | damaged w => rw [State.lineArrival, if_pos (s.lineHears_iff.mpr hon)]; exact damaged
    | checked f => rw [State.lineArrival_checked hon]; exact checked f hon
  · rw [State.lineArrival, if_neg (fun h => hon (s.lineHears_iff.mp h))]; exact deaf

/-- Where a checked line frame can go (R15 to R17). -/
theorem State.routeLine_cases {P : State → Prop} (s : State) (f : Frame) (kept : P s) (misrouted : P s.countMisrouted)
    (unknown : P s.countUnknown) (request : P (s.request f)) (relay : P (s.relayIn f)) (order : P (s.headOrder f)) :
    P (s.routeLine f) := by
  unfold State.routeLine
  split_ifs <;> assumption

/-! ## A frame at the field port -/

/-- What a frame at the field port can do: nothing at a deaf port, a damaged one counted, a checked one evaluated. -/
theorem State.fieldArrival_cases {P : State → Prop} (s : State) (j : Judged) (deaf : P s) (damaged : P s.countFieldDamaged)
    (checked : ∀ f, s.fieldOn → P ((s.fieldHeard f).evaluate f)) : P (s.fieldArrival j) := by
  by_cases hon : s.fieldOn
  · cases j with
    | damaged w => rw [State.fieldArrival, if_pos (s.fieldHears_iff.mpr hon)]; exact damaged
    | checked f => rw [State.fieldArrival_checked hon]; exact checked f hon
  · rw [State.fieldArrival, if_neg (fun h => hon (s.fieldHears_iff.mp h))]; exact deaf

/-- What the evaluation of a checked field frame can do (R18): nothing, a count, or an event of a head's supervisor. -/
theorem State.evaluate_cases {P : State → Prop} (s : State) (f : Frame) (kept : P s) (unknown : P s.countUnknown)
    (life : ∀ k, s.mode = .run → P (s.lifeFrame k (lifeFields f.payload)))
    (wheel : ∀ k, s.mode = .run →
      P (s.wheelFrame k (byteAt f.payload 0) (byteAt f.payload 1) (wheelEdges f.payload))) :
    P (s.evaluate f) := by
  unfold State.evaluate
  split
  · exact kept
  · exact kept
  · next k hmode _ =>
    split_ifs
    · exact life k hmode
    · exact wheel k hmode
    · exact unknown

/-! ## A request (R163) -/

theorem State.answersFull_iff (s : State) : s.answersFull = true ↔ 8 ≤ s.linePort.answers.length :=
  decide_eq_true_iff

/-- What a request can do: be counted as not executed, be refused by an answer, or act and be answered. -/
theorem State.request_cases {P : State → Prop} (s : State) (f : Frame) (dropped : P s.countDroppedRequest)
    (refused : ∀ r, s.linePort.answers.length < 8 → P (s.reply f r false))
    (acts : ∀ c, s.linePort.answers.length < 8 → s.pendingRestart = false →
      P ((s.act c (f.payload.drop 2)).1.reply f (s.act c (f.payload.drop 2)).2 (c == .restart))) :
    P (s.request f) := by
  unfold State.request
  split
  · exact dropped
  next hfull =>
  have hroom : s.linePort.answers.length < 8 := by rwa [State.answersFull_iff, not_le] at hfull
  split
  · exact dropped
  next hr =>
  unfold State.execute
  split
  · exact refused _ hroom
  · split_ifs
    · exact refused _ hroom
    · exact refused _ hroom
    · exact acts _ hroom (by simpa using hr)

/-- What the action of a request can make of the state (R163 step 6), and the checks it has passed then. -/
theorem State.act_cases {P : State → Prop} (s : State) (c : RequestCode) (p : List Byte) (kept : P s)
    (toConfig : s.mode = .run → P s.enterConfig)
    (toRun : s.mode = .config → s.tables.validate s.pins.ownStation = none → P s.enterRun)
    (written : ∀ id t, s.judgeWrite p = .ok (id, t) → P ((s.setTables t).linesAfterWrite id p))
    (readmitted : ∀ n, s.mode = .run → P (s.readmitBroken n))
    (restart : P (s.setPendingRestart true)) (hold : ∀ x, P (s.setNotice { s.notice with hold := x }))
    (watchSet : ∀ v, P (s.setWatch { s.watch with entries := v }))
    (captured : ∀ n, P (s.setWatch { s.watch with captures := s.watch.captures.drop n }))
    (restored : ∀ kind n k, s.judgeRestoreOrder kind n = .accepted k → P (s.acceptRestore kind k))
    (cancelled : ∀ n k, s.judgeCancel n = .accepted k → P (s.disturb k .cancelled none)) : P (s.act c p).1 := by
  have hrestore (kind : RestoreKind) : P (s.doRestore kind p).1 := by
    unfold State.doRestore
    split
    · exact kept
    · next k hk => exact restored kind _ k hk
  cases c with
  | mode =>
    unfold State.act State.doMode
    dsimp only
    split
    · split
      · exact kept
      · next hm => exact toConfig hm
    · split
      · split
        · exact kept
        · next hm =>
          split
          · exact kept
          · next hv => exact toRun hm hv
      · exact kept
  | write =>
    unfold State.act State.doWrite
    dsimp only
    split
    · exact kept
    · next id t hw => exact written id t hw
  | read =>
    unfold State.act State.doRead
    dsimp only
    split
    · exact kept
    · split_ifs <;> exact kept
  | status =>
    unfold State.act State.doStatus
    dsimp only
    split <;> exact kept
  | readmit =>
    unfold State.act State.doReadmit
    dsimp only
    split
    · split
      · exact kept
      · next hm =>
        have hrun : s.mode = .run := by cases h : s.mode <;> simp_all
        split
        · exact readmitted _ hrun
        · exact kept
    · exact kept
  | restart => exact restart
  | noticeHold => exact hold _
  | noticeRelease => exact hold _
  | watchSet =>
    unfold State.act State.doWatchSet
    dsimp only
    split
    · exact watchSet _
    · exact kept
  | capture =>
    unfold State.act State.doCapture
    dsimp only
    split
    · exact captured _
    · exact kept
  | restoreSweep => exact hrestore _
  | restoreDirect => exact hrestore _
  | restoreCancel =>
    unfold State.act State.doCancel
    dsimp only
    split
    · exact kept
    · next k hk => exact cancelled _ k hk

theorem State.linesAfterWrite_linePort (s : State) (id : TableId) (p : List Byte) :
    (s.linesAfterWrite id p).linePort = s.linePort := by cases id <;> rfl

/-- The action of a request moves no queue of the line port: its answer does. -/
theorem State.act_linePort (s : State) (c : RequestCode) (p : List Byte) : (s.act c p).1.linePort = s.linePort :=
  State.act_cases (P := fun t => t.linePort = s.linePort) s c p rfl (fun _ => rfl) (fun _ _ => rfl)
    (fun _ _ _ => State.linesAfterWrite_linePort ..) (fun _ _ => State.readmitBroken_linePort ..) rfl (fun _ => rfl)
    (fun _ => rfl) (fun _ => rfl) (fun _ _ _ _ => State.acceptRestore_linePort ..) (fun _ _ _ => State.disturb_linePort ..)

/-- What an accepted or refused head order can do (R17, R12, R153). -/
theorem State.headOrder_cases {P : State → Prop} (s : State) (f : Frame) (dropped : P s.countDroppedRequest)
    (refused : ∀ a, s.linePort.answers.length < 8 → P (s.pushAnswer a))
    (queued : s.fieldPort.orders.length < 8 → P ((s.queueOrder f).testHeads f)) : P (s.headOrder f) := by
  unfold State.headOrder
  split
  · unfold State.refuseOrder
    split
    · exact dropped
    · next h => exact refused _ (by rwa [State.answersFull_iff, not_le] at h)
  · next h =>
    refine queued ?_
    unfold State.judgeOrder at h
    simp only at h
    split_ifs at h with h1 h2 h3
    simpa [Config.orderSpace] using h3

/-! ## RUN entry and the soft restart (R80, R122, R182) -/

section
variable (s : State) (c : Cause)

theorem State.runEntry_heads (k : Fin 32) : (s.runEntry c).heads[k] =
    if s.tables.heads[k].used then s.heads[k].enterAwaiting else s.heads[k] := tab_get ..

theorem State.runEntry_relayOut (k : Fin 32) : (s.runEntry c).relayOut[k] =
    if s.tables.heads[k].used && s.tables.heads[k].relays then
      s.relayOut[k].enterRun (s.timerAfter (ticks10ms s.tables.part.relayPeriod))
    else s.relayOut[k] := tab_get ..

theorem State.runEntry_channels (i : Fin 8) : (s.runEntry c).channels[i] =
    if s.tables.relays[i].used then s.channels[i].enterRun else s.channels[i] := tab_get ..

theorem State.runEntry_sections (k : Fin 24) : (s.runEntry c).sections[k] =
    s.sections[k].enterRun s.tables.sections[k].inUse c s.partTime := tab_get ..

theorem State.runEntry_owed (k : Fin 24) : (s.runEntry c).notice.owed[k] =
    (s.notice.owed[k] || s.tables.sections[k].inUse) := tab_get ..

theorem State.judgeWarnings_sections (k : Fin 24) : s.judgeWarnings.sections[k] =
    if s.tables.sections[k].inUse then { s.sections[k] with warning := s.warningOf k s.sections[k].state }
    else s.sections[k] := tab_get ..

@[simp] theorem State.judgeWarnings_heads : s.judgeWarnings.heads = s.heads := by unfold State.judgeWarnings; rfl
@[simp] theorem State.judgeWarnings_relayOut : s.judgeWarnings.relayOut = s.relayOut := by unfold State.judgeWarnings; rfl
@[simp] theorem State.judgeWarnings_channels : s.judgeWarnings.channels = s.channels := by unfold State.judgeWarnings; rfl
@[simp] theorem State.judgeWarnings_notice : s.judgeWarnings.notice = s.notice := by unfold State.judgeWarnings; rfl
@[simp] theorem State.judgeLatches_sections : s.judgeLatches.sections = s.sections := rfl
@[simp] theorem State.judgeLatches_notice : s.judgeLatches.notice = s.notice := rfl

end

theorem Mode.config_or_run (m : Mode) : m = .config ∨ m = .run := by cases m <;> simp

theorem State.softRestart_config {s : State} (h : s.mode = .config) :
    s.softRestart = s.restartValues.dropActivations.judgeLatches := by
  have hm : s.restartValues.dropActivations.mode = .config := h
  unfold State.softRestart
  simp only [hm]

theorem State.softRestart_run {s : State} (h : s.mode = .run) :
    s.softRestart = ((s.restartValues.dropActivations.runEntry .restart).judgeWarnings).judgeLatches := by
  have hm : s.restartValues.dropActivations.mode = .run := h
  unfold State.softRestart
  simp only [hm]

@[simp] theorem State.softRestart_fieldPort (s : State) : s.softRestart.fieldPort = { s.fieldPort with orders := [] } := by
  rcases s.mode.config_or_run with h | h
  · rw [State.softRestart_config h]; rfl
  · rw [State.softRestart_run h]; rfl

@[simp] theorem State.softRestart_linePort (s : State) :
    s.softRestart.linePort = { LinePort.reset with tx := s.linePort.tx } := by
  rcases s.mode.config_or_run with h | h
  · rw [State.softRestart_config h]; rfl
  · rw [State.softRestart_run h]; rfl

@[simp] theorem State.softRestart_watch (s : State) : s.softRestart.watch = .reset := by
  rcases s.mode.config_or_run with h | h
  · rw [State.softRestart_config h]; rfl
  · rw [State.softRestart_run h]; rfl

/-- The relay-out records after a soft restart: those of RUN entry at a used relaying head in RUN, else at reset. -/
theorem State.softRestart_relayOut (s : State) (k : Fin 32) : s.softRestart.relayOut[k] =
    if s.mode = .run ∧ s.tables.heads[k].used = true ∧ s.tables.heads[k].relays = true then
      RelayOut.reset.enterRun (s.timerAfter (ticks10ms s.tables.part.relayPeriod))
    else .reset := by
  have hreset : s.restartValues.dropActivations.relayOut[k] = .reset := replicate_get ..
  rcases s.mode.config_or_run with h | h
  · rw [State.softRestart_config h, State.judgeLatches_relayOut, hreset, h, if_neg (by simp)]
  · rw [State.softRestart_run h, State.judgeLatches_relayOut, State.judgeWarnings_relayOut,
      State.runEntry_relayOut, hreset]
    simp only [h, true_and, Bool.and_eq_true]
    rfl

/-! ## The arbiter (R11, R6) -/

/-- A property is kept by the arbiter's turn when taking a frame keeps it, and so do a frame's end and the start of a
transmission. -/
theorem State.arbitrate_preserves {P : State → Prop} (take : ∀ s o t, P s → s.takeReady = some (o, t) → P t)
    (sent : ∀ s o, P s → P (s.afterSent o)) (start : ∀ s o, P s → P (s.setLinePort { s.linePort with tx := some o }))
    (fuel : Nat) (s : State) (h : P s) : P (s.arbitrate fuel) := by
  induction fuel generalizing s with
  | zero => exact h
  | succ n ih =>
    unfold State.arbitrate
    split
    · split
      · exact h
      · next o t ht =>
        have hP := take _ _ _ h ht
        split
        · exact ih _ (sent _ _ hP)
        · exact start _ _ hP
    · exact h

/-- The frame taken is one of the six classes of R11, in their order. -/
theorem State.takeReady_cases {s : State} {p : Outgoing × State} (h : s.takeReady = some p) :
    s.takeAnswer = some p ∨ s.takeRelay = some p ∨ s.takeVerdict = some p ∨ s.takeRound = some p ∨
      s.takeNotice = some p ∨ s.takeForward = some p := by
  simp only [State.takeReady, Option.or_eq_some_iff] at h
  tauto

end Sys2Proof.Machine
end

section
/-! SUPPORT. The queues of the part stay within their sizes: the pending lists of the relay unit under every event of
the track, the watch unit's two lists under an offer, the ports' queues under a frame, a request and the arbiter. -/

namespace Sys2Proof.Machine

/-! ## The pending lists (R122, R124) -/

/-- No pending list is above its size (R122). -/
def State.PendingBounded (s : State) : Prop := ∀ k : Fin 32, s.relayOut[k].pending.length ≤ 4

/-- The watch unit's lists are within their sizes (R158, R159). -/
def Watch.Bounded (w : Watch) : Prop := w.captures.length ≤ 8 ∧ w.notices.length ≤ 8

theorem State.queuesBounded_iff (s : State) : s.QueuesBounded ↔
    s.fieldPort.orders.length ≤ 8 ∧ s.linePort.answers.length ≤ 8 ∧ s.linePort.forward.length ≤ 16 ∧
      s.watch.Bounded ∧ s.PendingBounded := by
  simp only [State.QueuesBounded, Watch.Bounded, State.PendingBounded, and_assoc]

theorem RelayOut.join_pending_le (r : RelayOut) (p : Passage) (h : r.pending.length ≤ 4) :
    (r.join p).pending.length ≤ 4 := by
  unfold RelayOut.join
  split
  · exact h
  · next hroom =>
    simp only [Config.pendingSpace, not_or] at hroom
    simp only [List.length_append, List.length_singleton]
    omega

namespace State.PendingBounded

variable {s t : State} (h : s.PendingBounded)
include h

theorem congr (he : t.relayOut = s.relayOut) : t.PendingBounded := by
  intro k
  rw [he]
  exact h k

theorem setRelayOut (k : Fin 32) (r : RelayOut) (hr : r.pending.length ≤ 4) : (s.setRelayOut k r).PendingBounded := by
  intro j
  rw [State.setRelayOut_relayOut, upd_get]
  split
  · exact hr
  · exact h j

theorem noteStatus (k : Fin 32) (b : OriginStatus) : (s.noteStatus k b).PendingBounded := by
  unfold State.noteStatus
  split
  · exact h.setRelayOut k _ (h k)
  · exact h

theorem relayPassage (k : Fin 32) (p : Passage) : (s.relayPassage k p).PendingBounded := by
  unfold State.relayPassage
  split
  · exact (h.setRelayOut k _ (RelayOut.join_pending_le _ p (h k))).noteStatus k _
  · exact h

theorem deliverPassage (p : Option PassageRecord) : (s.deliverPassage p).PendingBounded := by
  cases p with
  | none => exact h
  | some p =>
    have hpassed : (s.passage (headSource p.source) p.dir).PendingBounded := h.congr (State.passage_relayOut ..)
    exact hpassed.relayPassage p.source p.relayed

theorem commitHead (k : Fin 32) (r : HeadRun) : (s.commitHead k r).PendingBounded := by
  have hnoted : ((s.setHead k r).noteStatus k (s.statusOf k)).PendingBounded :=
    State.PendingBounded.noteStatus (s := s.setHead k r) h k _
  unfold State.commitHead
  refine hnoted.congr ?_
  rw [State.deliverOpt_relayOut]
  split
  · rw [State.deliver_relayOut]
  · rfl

theorem edges (k : Fin 32) (a : Anchor) (before : Option (Time × Half)) (es : List EdgeOperand) :
    (s.edges k a before es).PendingBounded := by
  induction es generalizing s before with
  | nil => exact h
  | cons e es ih =>
    have hactive : (s.activity (headSource k)).PendingBounded := h.congr (State.activity_relayOut ..)
    unfold State.edges
    dsimp only
    split
    · exact hactive.commitHead k _
    · refine ih (State.PendingBounded.deliverPassage (s := (s.activity (headSource k)).setHead k _) hactive _) _

theorem wheelAccepted (k : Fin 32) (q fl : Byte) (es : List EdgeOperand) : (s.wheelAccepted k q fl es).PendingBounded := by
  unfold State.wheelAccepted
  dsimp only
  split
  · exact h.commitHead k _
  · split
    · exact h.commitHead k _
    · split
      · exact h.commitHead k _
      · exact (h.commitHead k _).edges k _ _ es

theorem wheelFrame (k : Fin 32) (q fl : Byte) (es : List EdgeOperand) : (s.wheelFrame k q fl es).PendingBounded := by
  unfold State.wheelFrame
  split
  case h_4 | h_5 | h_6 | h_7 => exact h
  all_goals
    split
    · exact h.commitHead k _
    · exact h.commitHead k _
    · exact h.wheelAccepted k q fl es

theorem headExpiry (k : Fin 32) : (s.headExpiry k).PendingBounded := by
  unfold State.headExpiry
  dsimp only
  split
  case h_4 | h_5 | h_6 | h_7 => exact h
  all_goals
    split
    · exact h.commitHead k _
    · exact h

theorem testHead (k : Fin 32) : (s.testHead k).PendingBounded := by
  unfold State.testHead
  split
  case h_1 | h_2 | h_3 | h_4 => exact h.commitHead k _
  all_goals exact h

theorem testHeads (f : Frame) : (s.testHeads f).PendingBounded := by
  unfold State.testHeads
  split
  · exact foldl_preserves State.PendingBounded _ _ (fun t k _ ht => ht.testHead k) s h
  · exact h

theorem commitChannel (c : Fin 8) (r : Channel) : (s.commitChannel c r).PendingBounded :=
  h.congr (State.deliverOpt_relayOut ..)

theorem channelFrame (c : Fin 8) (q : Byte) (st : OriginStatus) (ps : List PassageOperand) :
    (s.channelFrame c q st ps).PendingBounded := by
  unfold State.channelFrame
  dsimp only
  split
  · exact foldl_preserves State.PendingBounded _ _ (fun t p _ ht => ht.congr (State.passage_relayOut ..)) _
      (h.commitChannel c _)
  · exact h.commitChannel c _

theorem channelExpiry (c : Fin 8) : (s.channelExpiry c).PendingBounded := by
  unfold State.channelExpiry
  dsimp only
  split
  case h_4 | h_5 | h_6 | h_7 => exact h
  all_goals
    split
    · exact h.commitChannel c _
    · exact h

theorem readmitHead (k : Fin 32) : (s.readmitHead k).PendingBounded := by
  have hnoted : (((s.setHead k s.heads[k].enterAwaiting).setRelayOut k s.relayOut[k].readmitted).noteStatus k
      (s.statusOf k)).PendingBounded :=
    (State.PendingBounded.setRelayOut (s := s.setHead k _) h k s.relayOut[k].readmitted (Nat.zero_le 4)).noteStatus k _
  exact hnoted.congr (State.deliver_relayOut ..)

theorem readmitBroken (n : Fin 40) : (s.readmitBroken n).PendingBounded := by
  unfold State.readmitBroken
  split
  case h_1 | h_2 =>
    split
    · exact h.readmitHead _
    · exact h.congr (State.deliver_relayOut ..)
  all_goals exact h

theorem relayExpiry (k : Fin 32) : (s.relayExpiry k).PendingBounded := by
  unfold State.relayExpiry
  split
  · exact h.setRelayOut k _ (h k)
  · exact h

theorem acceptRestore (kind : RestoreKind) (k : Fin 24) : (s.acceptRestore kind k).PendingBounded := by
  have hput : ((s.putSection k (s.sections[k].acceptRestore kind)).setRestoreTimer k (s.restoreTimer k)).PendingBounded :=
    h.congr (State.putSection_relayOut ..)
  have hfold := foldl_preserves State.PendingBounded _ (s.tables.boundarySources k)
    (fun t n _ ht => ht.readmitBroken n) _ hput
  exact hfold.congr (State.judgeRestore_relayOut ..)

theorem localRestore (k : Fin 24) : (s.localRestore k).PendingBounded := by
  unfold State.localRestore
  split
  · exact h
  · exact h.acceptRestore _ _

end State.PendingBounded

/-! ## The watch unit's lists (R157 to R159) -/

theorem Watch.Bounded.keep {w : Watch} (h : w.Bounded) (c : Capture) : (w.keep c).Bounded := by
  unfold Watch.keep
  split
  · next hroom =>
    refine ⟨?_, h.2⟩
    simp only [Config.captureSpace] at hroom
    simp only [List.length_append, List.length_singleton]
    omega
  · exact h

theorem Watch.Bounded.announce {w : Watch} (h : w.Bounded) (n : Frame) : (w.announce n).Bounded := by
  unfold Watch.announce
  split
  · next hroom =>
    refine ⟨h.1, ?_⟩
    simp only [Config.noticeSpace] at hroom
    simp only [List.length_append, List.length_singleton]
    omega
  · exact h

theorem State.offer_bounded {s : State} (h : s.watch.Bounded) (onLine : Bool) (f : Frame) :
    (s.offer onLine f).watch.Bounded := by
  unfold State.offer
  refine foldl_preserves (fun t : State => t.watch.Bounded) _ _ (fun t e _ ht => ?_) s h
  split
  · exact (Watch.Bounded.keep ht _).announce _
  · exact ht

@[simp] theorem State.heard_watch (s : State) (f : Frame) : (s.heard f).watch = (s.offer true f).watch := by
  simp only [State.heard]

/-! ## What leaves every queue within its size -/

namespace State.QueuesBounded

variable {s t : State} (h : s.QueuesBounded)
include h

/-- An event of the track moves no queue but the pending lists. -/
theorem of_track (ht : t.butTrack = s.butTrack) (hp : t.PendingBounded) : t.QueuesBounded := by
  rw [State.queuesBounded_iff, State.fieldPort_of_butTrack ht, State.linePort_of_butTrack ht, State.watch_of_butTrack ht]
  obtain ⟨horders, hanswers, hforward, hwatch, -⟩ := s.queuesBounded_iff.mp h
  exact ⟨horders, hanswers, hforward, hwatch, hp⟩

theorem pendingBounded : s.PendingBounded := (s.queuesBounded_iff.mp h).2.2.2.2

theorem watchBounded : s.watch.Bounded := (s.queuesBounded_iff.mp h).2.2.2.1

/-- A line port whose two queues are within their sizes. -/
theorem setLinePort (p : LinePort) (ha : p.answers.length ≤ 8) (hf : p.forward.length ≤ 16) :
    (s.setLinePort p).QueuesBounded := by
  obtain ⟨horders, -, -, hcaptures, hnotices, hpending⟩ := h
  exact ⟨horders, ha, hf, hcaptures, hnotices, hpending⟩

theorem setWatch (w : Watch) (hw : w.Bounded) : (s.setWatch w).QueuesBounded := by
  obtain ⟨horders, hanswers, hforward, -, -, hpending⟩ := h
  exact ⟨horders, hanswers, hforward, hw.1, hw.2, hpending⟩

theorem setFieldPort (p : FieldPort) (hp : p.orders.length ≤ 8) : (s.setFieldPort p).QueuesBounded := by
  obtain ⟨-, hrest⟩ := h
  exact ⟨hp, hrest⟩

/-! ## Frames -/

theorem heard (f : Frame) : (s.heard f).QueuesBounded := by
  obtain ⟨horders, hanswers, hforward, hwatch, hpending⟩ := s.queuesBounded_iff.mp h
  rw [State.queuesBounded_iff, State.heard_watch]
  exact ⟨horders, hanswers, hforward, State.offer_bounded hwatch true f, hpending⟩

theorem fieldHeard (f : Frame) : (s.fieldHeard f).QueuesBounded := by
  rw [← State.offer_forwarding, State.offer_eq]
  have hoffered := h.setWatch _ (State.offer_bounded h.watchBounded false f)
  generalize (s.setWatch (s.offer false f).watch) = u at hoffered ⊢
  obtain ⟨-, hanswers, hforward, -⟩ := id hoffered
  unfold State.forwarding State.pushForward
  split
  · by_cases hroom : u.linePort.forward.length < Config.forwardSpace
    · rw [if_pos hroom]
      simp only [Config.forwardSpace] at hroom
      exact hoffered.setLinePort _ hanswers (by simp only [List.length_append, List.length_singleton]; omega)
    · rw [if_neg hroom]
      have hkept : (u.linePort.forward.drop 1 ++ [u.stamped f]).length ≤ 16 := by
        simp only [List.length_append, List.length_singleton, List.length_drop]
        omega
      exact hoffered.setLinePort { u.linePort with forward := u.linePort.forward.drop 1 ++ [u.stamped f] } hanswers hkept
  · exact hoffered

theorem pushAnswer (a : Outgoing) (hroom : s.linePort.answers.length < 8) : (s.pushAnswer a).QueuesBounded :=
  h.setLinePort _ (by simp only [List.length_append, List.length_singleton]; omega) h.2.2.1

theorem headOrder (f : Frame) : (s.headOrder f).QueuesBounded := by
  refine State.headOrder_cases s f h (fun a hroom => h.pushAnswer a hroom) fun hroom => ?_
  have hqueued : (s.queueOrder f).QueuesBounded :=
    h.setFieldPort _ (by simp only [List.length_append, List.length_singleton]; omega)
  exact hqueued.of_track (State.testHeads_butTrack ..) (hqueued.pendingBounded.testHeads f)

theorem relayIn (f : Frame) : (s.relayIn f).QueuesBounded := by
  unfold State.relayIn
  split
  · exact h
  · split
    · exact h
    · exact h.of_track (State.channelFrame_butTrack ..) (h.pendingBounded.channelFrame _ _ _ _)

theorem evaluate (f : Frame) : (s.evaluate f).QueuesBounded :=
  State.evaluate_cases s f h h
    (fun k _ => h.of_track (State.lifeFrame_butTrack ..) (h.pendingBounded.commitHead k _))
    (fun k _ => h.of_track (State.wheelFrame_butTrack ..) (h.pendingBounded.wheelFrame k _ _ _))

/-! ## Requests -/

/-- RUN entry leaves a pending list as it is or empties it (R122). -/
theorem enterRun : s.enterRun.QueuesBounded := by
  obtain ⟨horders, hanswers, hforward, hcaptures, hnotices, hpending⟩ := h
  refine ⟨horders, hanswers, hforward, hcaptures, hnotices, fun k => ?_⟩
  rw [show s.enterRun.relayOut = (s.runEntry .start).relayOut from rfl, State.runEntry, tab_get]
  split
  · exact Nat.zero_le 4
  · exact hpending k

theorem enterConfig : s.enterConfig.QueuesBounded := by
  obtain ⟨horders, hanswers, hforward, hcaptures, hnotices, -⟩ := h
  refine ⟨horders, hanswers, hforward, hcaptures, hnotices, fun k => ?_⟩
  rw [show s.enterConfig.relayOut = Vector.replicate 32 .reset from rfl, replicate_get]
  exact Nat.zero_le 4

theorem linesAfterWrite (id : TableId) (p : List Byte) : (s.linesAfterWrite id p).QueuesBounded := by
  cases id <;> exact h

theorem act (c : RequestCode) (p : List Byte) : (s.act c p).1.QueuesBounded := by
  apply State.act_cases
  case kept => exact h
  case toConfig => exact fun _ => h.enterConfig
  case toRun => exact fun _ _ => h.enterRun
  case written => exact fun id t _ => State.QueuesBounded.linesAfterWrite (s := s.setTables t) h id p
  case readmitted => exact fun n _ => h.of_track (State.readmitBroken_butTrack ..) (h.pendingBounded.readmitBroken n)
  case restart => exact h
  case hold => exact fun _ => h
  case watchSet => exact fun _ => h.setWatch _ h.watchBounded
  case captured =>
    refine fun n => h.setWatch _ ⟨?_, h.watchBounded.2⟩
    rw [List.length_drop]
    exact (Nat.sub_le ..).trans h.watchBounded.1
  case restored =>
    exact fun kind _ k _ => h.of_track (State.acceptRestore_butTrack ..) (h.pendingBounded.acceptRestore kind k)
  case cancelled =>
    exact fun _ k _ => h.of_track (State.putSection_butTrack ..) (h.pendingBounded.congr (State.disturb_relayOut ..))

theorem request (f : Frame) : (s.request f).QueuesBounded := by
  refine State.request_cases s f h (fun r hroom => h.pushAnswer _ hroom) fun c hroom _ => ?_
  exact (h.act c _).pushAnswer _ (by rw [State.act_linePort]; exact hroom)

theorem lineArrival (j : Judged) : (s.lineArrival j).QueuesBounded := by
  refine State.lineArrival_cases s j h h fun f _ => ?_
  have hh := h.heard f
  generalize s.heard f = u at hh ⊢
  exact State.routeLine_cases _ f hh hh hh (hh.request f) (hh.relayIn f) (hh.headOrder f)

theorem fieldArrival (j : Judged) : (s.fieldArrival j).QueuesBounded :=
  State.fieldArrival_cases s j h h fun f _ => (h.fieldHeard f).evaluate f

/-! ## The transmitters, the timers and the pins -/

omit h in
/-- A soft restart empties every queue (R182). -/
theorem softRestart (s : State) : s.softRestart.QueuesBounded := by
  rw [State.queuesBounded_iff, State.softRestart_fieldPort, State.softRestart_linePort, State.softRestart_watch]
  refine ⟨Nat.zero_le _, Nat.zero_le _, Nat.zero_le _, ⟨Nat.zero_le _, Nat.zero_le _⟩, fun k => ?_⟩
  rw [State.softRestart_relayOut]
  split <;> exact Nat.zero_le 4

theorem afterSent (o : Outgoing) : (s.afterSent o).QueuesBounded := by
  unfold State.afterSent
  split
  · exact softRestart s
  · exact h

theorem takeReady {o : Outgoing} (ht : s.takeReady = some (o, t)) : t.QueuesBounded := by
  have hcase := State.takeReady_cases ht
  clear ht
  obtain ⟨-, hanswers, hforward, -⟩ := id h
  rcases hcase with hc | hc | hc | hc | hc | hc
  · unfold State.takeAnswer at hc
    split at hc
    · cases hc
    · next a rest he =>
      cases hc
      rw [he] at hanswers
      exact h.setLinePort _ (Nat.le_of_succ_le hanswers) hforward
  · unfold State.takeRelay at hc
    split at hc
    · cases hc
    · next k _ =>
      cases hc
      have htaken : (s.setRelayOut k s.relayOut[k].afterTaken).QueuesBounded :=
        h.of_track rfl (h.pendingBounded.setRelayOut k s.relayOut[k].afterTaken (Nat.zero_le 4))
      exact htaken.setLinePort _ hanswers hforward
  · unfold State.takeVerdict at hc
    split at hc
    · cases hc
    · split at hc
      · cases hc
      · cases hc
        exact h
  · unfold State.takeRound at hc
    split at hc
    · cases hc
      exact h
    · cases hc
  · unfold State.takeNotice at hc
    split at hc
    · cases hc
    · next n rest he =>
      cases hc
      obtain ⟨hcaptures, hnotices⟩ := h.watchBounded
      rw [he] at hnotices
      exact h.setWatch _ ⟨hcaptures, Nat.le_of_succ_le hnotices⟩
  · unfold State.takeForward at hc
    split at hc
    · cases hc
    · next f rest he =>
      cases hc
      rw [he] at hforward
      exact h.setLinePort _ hanswers (Nat.le_of_succ_le hforward)
theorem enterDown : s.enterDown.QueuesBounded := by
  obtain ⟨horders, -, -, hcaptures, -, hpending⟩ := h
  exact ⟨horders, Nat.zero_le _, Nat.zero_le _, hcaptures, Nat.zero_le _, hpending⟩

omit h in
theorem hardwareReset (s : State) (straps : Byte) (ratePin : PinLevel) :
    (s.hardwareReset straps ratePin).QueuesBounded := by
  refine ⟨Nat.zero_le _, Nat.zero_le _, Nat.zero_le _, Nat.zero_le _, Nat.zero_le _, fun k => ?_⟩
  rw [show (s.hardwareReset straps ratePin).relayOut = Vector.replicate 32 .reset from rfl, replicate_get]
  exact Nat.zero_le 4

theorem event (ht : Event s t) : t.QueuesBounded := by
  cases ht with
  | idle | tick | resetLow | orderSent => exact h
  | hardwareReset a b => exact hardwareReset s a b
  | levelChange l v =>
    unfold State.levelChange
    dsimp only
    split <;> exact h
  | fieldArrival j => exact h.fieldArrival j
  | lineArrival j => exact h.lineArrival j
  | headExpiry k => exact h.of_track (State.headExpiry_butTrack ..) (h.pendingBounded.headExpiry k)
  | channelExpiry c => exact h.of_track (State.channelExpiry_butTrack ..) (h.pendingBounded.channelExpiry c)
  | relayExpiry k => exact h.of_track (State.relayExpiry_butTrack ..) (h.pendingBounded.relayExpiry k)
  | restoreExpiry k =>
    exact h.of_track (State.butTrack_of_butSections (State.restoreExpiry_butSections ..))
      (h.pendingBounded.congr (State.restoreExpiry_relayOut ..))
  | silenceExpiry =>
    unfold State.silenceExpiry
    split
    · exact h.enterDown
    · exact h
  | roundExpiry =>
    unfold State.roundExpiry
    split <;> exact h
  | activationExpiry l =>
    unfold State.activationExpiry
    split
    · have hline : (s.setLine l { s.lines[l] with activation := .spent, timer := none }).QueuesBounded := h
      exact hline.of_track (State.localRestore_butTrack ..) (hline.pendingBounded.localRestore _)
    · exact h
  | arbiterTurn =>
    exact State.arbitrate_preserves (fun _ _ _ hs ht => hs.takeReady ht) (fun _ o hs => hs.afterSent o)
      (fun _ _ hs => hs) _ s h
  | lineSent =>
    unfold State.lineSent
    split
    · exact h
    · next o _ => exact State.QueuesBounded.afterSent (s := s.setLinePort { s.linePort with tx := none }) h o
  | startOrder =>
    unfold State.startOrder
    split
    · next f rest _ he =>
      have horders := h.1
      rw [he] at horders
      exact h.setFieldPort _ (Nat.le_of_succ_le horders)
    · exact h
    · exact h

end State.QueuesBounded

/-- Settles O6: the sizes are kept along every event a step can take. -/
theorem queuesStayBounded : Obligations.QueuesStayBounded := by
  unfold Obligations.QueuesStayBounded
  exact fun s t hs ht => step_preserves (fun _ h => h) (fun _ _ h he => h.event he) hs ht

end Sys2Proof.Machine
end

section
/-! SUPPORT. Frames on the wire: a run's judgement from the bytes it carries, the wire form read back, and the check of
R2, which one flipped bit always breaks. -/

namespace Sys2Proof.Machine

/-! ## The judgement of a run (R1, R3) -/

theorem byteAt_take (bs : List Byte) {i n : Nat} (h : i < n) : byteAt (bs.take n) i = byteAt bs i := by
  simp only [byteAt, List.getD_eq_getElem?_getD, List.getElem?_take_of_lt h]

/-- The judgement of R3 read off the bytes a run carries: a run of a frame's length is stored whole. -/
theorem judgeRun_of_carries {run : List RxChar} {got : List Byte} (h : Carries run got) :
    judgeRun run =
      if got.length < 8 then .damaged .short
      else if 64 < (byteAt got 5).toNat then .damaged .longPayload
      else if got.length ≠ 8 + (byteAt got 5).toNat then .damaged .countMismatch
      else if crc (got.take (6 + (byteAt got 5).toNat)) ≠ halfAt got (6 + (byteAt got 5).toNat) then .damaged .badCheck
      else if lengthRule (byteAt got 4) ((got.drop 6).take (byteAt got 5).toNat) then
        .checked ⟨⟨byteAt got 0, byteAt got 1, byteAt got 2, byteAt got 3⟩, byteAt got 4,
          (got.drop 6).take (byteAt got 5).toNat⟩
      else .damaged .badLength := by
  have hgot : (run.filter (·.stopGood)).map (·.data) = got := h
  unfold judgeRun
  simp only [hgot, Config.storedBytes, Config.maxPayload, byteAt_take got (show 5 < 72 by omega), gt_iff_lt]
  by_cases hlong : 64 < (byteAt got 5).toNat
  · simp only [hlong, if_true]
  by_cases hcount : got.length = 8 + (byteAt got 5).toNat
  · rw [List.take_of_length_le (show got.length ≤ 72 by omega)]
  · simp only [hlong, hcount, if_false, ne_eq, not_false_eq_true, if_true]

/-- The five conditions of R3, and no other, make a run a damaged frame. -/
theorem damaged_iff {run : List RxChar} {got : List Byte} (h : Carries run got) :
    (∃ w, judgeRun run = .damaged w) ↔
      got.length < 8 ∨ crc (got.take (6 + (byteAt got 5).toNat)) ≠ halfAt got (6 + (byteAt got 5).toNat) ∨
        64 < (byteAt got 5).toNat ∨ got.length ≠ 8 + (byteAt got 5).toNat ∨
        ¬LengthFits (byteAt got 4) ((got.drop 6).take (byteAt got 5).toNat) := by
  rw [judgeRun_of_carries h, ← lengthRule_iff]
  split_ifs <;> simp_all

/-! ## The wire form read back (1.1) -/

theorem body_length (f : Frame) : f.body.length = 6 + f.payload.length := by
  simp only [Frame.body, List.length_append, List.length_cons, List.length_nil]

theorem wire_length (f : Frame) : f.wire.length = 8 + f.payload.length := by
  simp only [Frame.wire, bytes16, List.length_append, List.length_cons, List.length_nil, body_length]
  omega

theorem wire_take (f : Frame) : f.wire.take (6 + f.payload.length) = f.body := by
  rw [Frame.wire, List.take_append_of_le_length (body_length f).ge, ← body_length f, List.take_length]

theorem wire_payload (f : Frame) : (f.wire.drop 6).take f.payload.length = f.payload := by
  simp [Frame.wire, Frame.body]

theorem wire_len (f : Frame) (h : f.payload.length ≤ 64) : (byteAt f.wire 5).toNat = f.payload.length := by
  simp [Frame.wire, Frame.body, byteAt]
  omega

theorem wire_check (f : Frame) : halfAt f.wire (6 + f.payload.length) = crc f.body := by
  have hbyte (i : Nat) : byteAt f.wire (6 + f.payload.length + i) = byteAt (bytes16 (crc f.body)) i := by
    simp only [byteAt, List.getD_eq_getElem?_getD, Frame.wire, ← body_length f,
      List.getElem?_append_right (Nat.le_add_right _ i), Nat.add_sub_cancel_left]
  rw [halfAt, hbyte 1, show byteAt f.wire (6 + f.payload.length) = _ from hbyte 0]
  exact be16_bytes _

/-- A run that carries a frame's wire form is judged as the frame standing there whole. -/
theorem judgeRun_wire {run : List RxChar} {f : Frame} (hl : f.payload.length ≤ 64) (h : Carries run f.wire) :
    judgeRun run = judgeFrame f := by
  rw [judgeRun_of_carries h, wire_len f hl, wire_take, wire_payload, wire_check, wire_length, judgeFrame]
  simp only [Config.maxPayload, gt_iff_lt, not_lt.mpr hl, show ¬8 + f.payload.length < 8 by omega, ne_eq,
    not_true_eq_false, if_false]
  rfl

/-! ## The check of R2 breaks on one flipped bit -/

theorem crc_concat (bs : List Byte) (b : Byte) : crc (bs ++ [b]) = crcByte (crc bs) b := by
  rw [crc, List.foldl_append]
  rfl

theorem crcBit_eq (reg : Half) (b : Bool) :
    crcBit reg b = if reg.getLsbD 15 = b then reg <<< 1 else (reg <<< 1) ^^^ 0x1021 := by
  unfold crcBit
  rw [BitVec.msb_eq_getLsbD_last]
  cases reg.getLsbD 15 <;> cases b <;> rfl

/-- The low bit of the register after a bit tells whether the generator went in. -/
theorem crcBit_lsb (reg : Half) (b : Bool) : (crcBit reg b).getLsbD 0 = (reg.getLsbD 15 ^^ b) := by
  rw [crcBit_eq]
  cases reg.getLsbD 15 <;> cases b <;> simp

theorem crcBit_flip (reg : Half) (b : Bool) : crcBit reg b ≠ crcBit reg !b := by
  intro h
  have hlow := congrArg (·.getLsbD 0) h
  simp only [crcBit_lsb] at hlow
  simp at hlow

theorem crcBit_injective (b : Bool) : Function.Injective (crcBit · b) := by
  intro r r' h
  have hlow := congrArg (·.getLsbD 0) h
  simp only [crcBit_lsb, Bool.xor_left_inj] at hlow
  have hshift : r <<< 1 = r' <<< 1 := by
    simp only [crcBit_eq, hlow] at h
    split at h
    · exact h
    · exact (BitVec.xor_left_inj _).mp h
  apply BitVec.eq_of_getLsbD_eq
  intro i hi
  rcases Nat.lt_or_ge i 15 with hlt | hge
  · have := congrArg (·.getLsbD (i + 1)) hshift
    simpa only [BitVec.getLsbD_shiftLeft, show i + 1 < 16 by omega, show ¬i + 1 < 1 by omega, decide_true, decide_false,
      Bool.not_false, Bool.true_and, Nat.add_sub_cancel] using this
  · rw [show i = 15 by omega]
    exact hlow

/-- Different registers stay different over any bits fed to both. -/
theorem crcBits_injective (b : Byte) (is : List Nat) :
    Function.Injective fun reg => is.foldl (fun r i => crcBit r (b.getLsbD i)) reg := by
  induction is with
  | nil => exact fun _ _ h => h
  | cons i is ih => exact fun _ _ h => crcBit_injective _ (ih h)

theorem crcByte_injective (b : Byte) : Function.Injective (crcByte · b) := crcBits_injective b _

theorem crcBytes_injective (bs : List Byte) : Function.Injective fun reg => bs.foldl crcByte reg := by
  induction bs with
  | nil => exact fun _ _ h => h
  | cons b bs ih => exact fun _ _ h => crcByte_injective b (ih h)

theorem flip_getLsbD (b : Byte) (i j : Nat) (hi : i < 8) :
    (b ^^^ BitVec.ofNat 8 (2 ^ i)).getLsbD j = if j = i then !b.getLsbD j else b.getLsbD j := by
  have hbit : (BitVec.ofNat 8 (2 ^ i)).getLsbD j = decide (j = i) := by
    rw [BitVec.getLsbD_ofNat, Nat.testBit_two_pow]
    by_cases h : j = i
    · subst h; simp [hi]
    · simp [h, Ne.symm h]
  rw [BitVec.getLsbD_xor, hbit]
  split_ifs with h <;> simp [h]

theorem flip_ne (b : Byte) {i : Nat} (hi : i < 8) : b ^^^ BitVec.ofNat 8 (2 ^ i) ≠ b := by
  intro h
  have := congrArg (·.getLsbD i) h
  simp only [flip_getLsbD b i i hi, if_true] at this
  cases hb : b.getLsbD i <;> rw [hb] at this <;> cases this

/-- The bit positions before and after one of a byte's eight, most significant first. -/
theorem bits_around {i : Nat} (hi : i < 8) :
    ∃ before after : List Nat, [7, 6, 5, 4, 3, 2, 1, 0] = before ++ i :: after ∧ i ∉ before ∧ i ∉ after := by
  have hmem : i ∈ [7, 6, 5, 4, 3, 2, 1, 0] := by simp only [List.mem_cons]; omega
  obtain ⟨before, after, heq⟩ := List.append_of_mem hmem
  have hnodup : (before ++ i :: after).Nodup := heq ▸ (by decide)
  refine ⟨before, after, heq, fun h => ?_, (List.nodup_cons.mp hnodup.of_append_right).1⟩
  exact (List.disjoint_of_nodup_append hnodup) h List.mem_cons_self

/-- One byte with a bit flipped leaves another register. -/
theorem crcByte_flip (reg : Half) (b : Byte) {i : Nat} (hi : i < 8) :
    crcByte reg (b ^^^ BitVec.ofNat 8 (2 ^ i)) ≠ crcByte reg b := by
  obtain ⟨before, after, heq, hbefore, hafter⟩ := bits_around hi
  have hsame (is : List Nat) (his : i ∉ is) (r : Half) :
      is.foldl (fun r j => crcBit r ((b ^^^ BitVec.ofNat 8 (2 ^ i)).getLsbD j)) r =
        is.foldl (fun r j => crcBit r (b.getLsbD j)) r := by
    refine List.foldl_ext _ _ r fun r j hj => ?_
    rw [flip_getLsbD b i j hi, if_neg fun h : j = i => his (h ▸ hj)]
  unfold crcByte
  rw [heq, List.foldl_append, List.foldl_append, List.foldl_cons, List.foldl_cons, hsame before hbefore, hsame after hafter,
    flip_getLsbD b i i hi, if_pos rfl]
  exact fun h => crcBit_flip _ _ (crcBits_injective b after h).symm

/-- A frame's body with one bit flipped has another check. -/
theorem crc_flip (bs : List Byte) {j i : Nat} (hj : j < bs.length) (hi : i < 8) :
    crc (bs.set j (byteAt bs j ^^^ BitVec.ofNat 8 (2 ^ i))) ≠ crc bs := by
  have hbyte : byteAt bs j = bs[j] := by simp [byteAt, hj]
  have hsplit : bs = bs.take j ++ bs[j] :: bs.drop (j + 1) := by simp
  rw [hbyte, List.set_eq_take_append_cons_drop, if_pos hj]
  conv => rhs; rw [hsplit]
  simp only [crc, List.foldl_append, List.foldl_cons]
  exact fun h => crcByte_flip _ _ hi (crcBytes_injective _ h)

theorem byteAt_set (bs : List Byte) {j : Nat} (i : Nat) (hj : j < bs.length) (x : Byte) :
    byteAt (bs.set j x) i = if i = j then x else byteAt bs i := by
  simp only [byteAt, List.getD_eq_getElem?_getD, List.getElem?_set, hj, if_true, eq_comm (a := i)]
  split_ifs <;> rfl

theorem be16_injective {h l h' l' : Byte} (heq : be16 h l = be16 h' l') : h = h' ∧ l = l' := by
  have hhigh := congrArg (BitVec.extractLsb' 8 8) heq
  have hlow := congrArg (BitVec.extractLsb' 0 8) heq
  simp only [be16, BitVec.extractLsb'_append_eq_left] at hhigh
  simp only [be16, BitVec.extractLsb'_append_eq_right] at hlow
  exact ⟨hhigh, hlow⟩

/-- A frame with one bit flipped on the wire is damaged: the count, the check over the bytes, or the check bytes
themselves no longer fit. -/
theorem damaged_of_flip (f : Frame) (hl : f.payload.length ≤ 64) (run : List RxChar) (j i : Nat) (hj : j < f.wire.length)
    (hi : i < 8) (h : Carries run (f.wire.set j (byteAt f.wire j ^^^ BitVec.ofNat 8 (2 ^ i)))) :
    ∃ w, judgeRun run = .damaged w := by
  have hne := flip_ne (byteAt f.wire j) hi
  rw [damaged_iff h]
  rw [byteAt_set _ 5 hj, List.length_set, wire_length]
  by_cases h5 : 5 = j
  · have hcount : (byteAt f.wire j ^^^ BitVec.ofNat 8 (2 ^ i)).toNat ≠ f.payload.length := fun hc =>
      hne (BitVec.eq_of_toNat_eq (hc.trans (h5 ▸ wire_len f hl).symm))
    rw [if_pos h5]
    omega
  · refine .inr (.inl ?_)
    rw [if_neg h5, wire_len f hl, List.take_set, wire_take]
    have hcheck := wire_check f
    rcases Nat.lt_or_ge j (6 + f.payload.length) with hbody | htail
    · have hbyte : byteAt f.wire j = byteAt f.body j := by rw [← wire_take, byteAt_take _ hbody]
      rw [halfAt, byteAt_set _ _ hj, byteAt_set _ _ hj, if_neg (by omega), if_neg (by omega), ← halfAt, hcheck, hbyte]
      exact crc_flip f.body (by rwa [body_length]) hi
    · rw [List.set_eq_of_length_le (by rwa [body_length]), ← hcheck, halfAt, halfAt, byteAt_set _ _ hj, byteAt_set _ _ hj]
      intro heq
      obtain ⟨hhigh, hlow⟩ := be16_injective heq
      rw [wire_length] at hj
      rcases (show j = 6 + f.payload.length ∨ j = 6 + f.payload.length + 1 by omega) with rfl | rfl
      · rw [if_pos rfl] at hhigh
        exact hne hhigh.symm
      · rw [if_pos rfl] at hlow
        exact hne hlow.symm

/-! ## The frame rows on the wire -/

/-- A row of the field port does what a run that carries its frame does. -/
theorem fieldRow_eq_run {s : State} {i : Instr} {f : Frame} {run : List RxChar}
    (hi : exec i s = .next (s.fieldArrival (judgeFrame f))) (hl : f.payload.length ≤ 64) (h : Carries run f.wire) :
    exec i s = exec (.fieldFrameReceived run) s := by
  rw [hi, ← judgeRun_wire hl h]
  rfl

/-- A row of the line port does what a run that carries its frame does. -/
theorem lineRow_eq_run {s : State} {i : Instr} {f : Frame} {run : List RxChar}
    (hi : exec i s = .next (s.lineArrival (judgeFrame f))) (hl : f.payload.length ≤ 64) (h : Carries run f.wire) :
    exec i s = exec (.lineFrameReceived run) s := by
  rw [hi, ← judgeRun_wire hl h]
  rfl

theorem wheelOperand_length (hdr : Header) (q fl : Byte) (es : List EdgeOperand) :
    (wheelOperand hdr q fl es).payload.length = 3 + 3 * es.length := by
  have hrecords := length_records es (·.edge) (·.stamp)
  simp only [wheelOperand, List.length_append, hrecords, List.length_cons, List.length_nil]

theorem relayOperand_length (hdr : Header) (q o st : Byte) (ps : List PassageOperand) :
    (relayOperand hdr q o st ps).payload.length = 4 + 3 * ps.length := by
  have hrecords := length_records ps (·.direction) (·.speed)
  simp only [relayOperand, List.length_append, hrecords, List.length_cons, List.length_nil]

/-- Settles O15: the wire form read back, the check's two properties, and each row as its frame's run. -/
theorem wireFrameReadsBack : Obligations.WireFrameReadsBack := by
  unfold Obligations.WireFrameReadsBack
  refine ⟨fun f hl => ⟨rfl, rfl, fun run h => ?_, damaged_of_flip f hl⟩, ⟨rfl, fun bs b => ?_⟩,
    ⟨fun _ => rfl, fun _ => rfl, fun _ _ => ⟨rfl, rfl⟩⟩, fun s hdr run => ⟨?_, ?_, ?_, ?_, ?_, ?_, ?_, rfl⟩⟩
  · rw [judgeRun_wire hl h, judgeFrame, Config.maxPayload, if_neg (not_lt.mpr hl), ← lengthRule_iff]
    exact ⟨fun hfit => if_pos hfit, fun hfit => if_neg hfit⟩
  · rw [crc_concat, crcByte]
    exact congrArg (fun g => List.foldl g (crc bs) [7, 6, 5, 4, 3, 2, 1, 0])
      (funext fun reg => funext fun i => crcBit_eq reg (b.getLsbD i))
  · exact fun seq ts a b st h => fieldRow_eq_run (f := lifeOperand hdr seq ts a b st) rfl (show 6 ≤ 64 by decide) h
  · intro seq flags edges hedges h
    refine fieldRow_eq_run (f := wheelOperand hdr seq flags edges) rfl ?_ h
    rw [wheelOperand_length]
    omega
  · exact fun h => lineRow_eq_run (f := keepOperand hdr) rfl (Nat.zero_le _) h
  · intro seq origin status ps hps h
    refine lineRow_eq_run (f := relayOperand hdr seq origin status ps) rfl ?_ h
    rw [relayOperand_length]
    omega
  · exact fun code params hp h => lineRow_eq_run (f := orderOperand hdr code params) rfl (Nat.succ_le_succ hp) h
  · exact fun params hp h => lineRow_eq_run (f := orderOperand hdr codeTestStart params) rfl (Nat.succ_le_succ hp) h
  · exact fun c tag params hp h => lineRow_eq_run (f := requestOperand hdr c tag params) (exec_row ..)
      (Nat.succ_le_succ (Nat.succ_le_succ hp)) h

end Sys2Proof.Machine
end

section
/-! SUPPORT. What a frame does at its port: counted when damaged, forwarded and evaluated at the field port, routed at
the line port. -/

namespace Sys2Proof.Machine

/-! ## The tallies of R14 -/

theorem State.countFieldDamaged_eq (s : State) : s.countFieldDamaged =
    { s with tallies := { s.tallies with fieldDamaged := oneMore s.tallies.fieldDamaged } } := by
  rw [← satInc_eq]; rfl

theorem State.countLineDamaged_eq (s : State) : s.countLineDamaged =
    { s with tallies := { s.tallies with lineDamaged := oneMore s.tallies.lineDamaged } } := by
  rw [← satInc_eq]; rfl

theorem State.countMisrouted_eq (s : State) : s.countMisrouted =
    { s with tallies := { s.tallies with misrouted := oneMore s.tallies.misrouted } } := by
  rw [← satInc_eq]; rfl

theorem State.countUnknown_eq (s : State) : s.countUnknown =
    { s with tallies := { s.tallies with unknown := oneMore s.tallies.unknown } } := by
  rw [← satInc_eq]; rfl

theorem State.countDroppedRequest_eq (s : State) : s.countDroppedRequest =
    { s with tallies := { s.tallies with droppedRequest := oneMore s.tallies.droppedRequest } } := by
  rw [← satInc_eq]; rfl

/-! ## Damaged frames (R3) and deaf ports (R1) -/

theorem State.lineArrival_damaged {s : State} (h : s.lineOn) (w : Damage) :
    s.lineArrival (.damaged w) = s.countLineDamaged := by
  rw [State.lineArrival, if_pos (s.lineHears_iff.mpr h)]
  rfl

theorem State.fieldArrival_damaged {s : State} (h : s.fieldOn) (w : Damage) :
    s.fieldArrival (.damaged w) = s.countFieldDamaged := by
  rw [State.fieldArrival, if_pos (s.fieldHears_iff.mpr h)]
  rfl

theorem State.fieldArrival_deaf {s : State} (h : ¬s.fieldOn) (j : Judged) : s.fieldArrival j = s := by
  rw [State.fieldArrival, if_neg fun hon => h (s.fieldHears_iff.mp hon)]

/-- Settles O16: the conditions of R3 by the branches of the judgement, and the count by the port's cases. -/
theorem damagedFramesAreOnlyCounted : Obligations.DamagedFramesAreOnlyCounted := by
  unfold Obligations.DamagedFramesAreOnlyCounted
  refine ⟨fun run => damaged_iff rfl, fun run w s hw => ⟨fun hon => ?_, fun hon i hi => ?_⟩⟩
  · rw [← State.countFieldDamaged_eq, ← State.fieldArrival_damaged hon w, ← hw]
    rfl
  · rw [← State.countLineDamaged_eq, ← State.lineArrival_damaged hon w, ← hw]
    rcases List.mem_pair.mp hi with rfl | rfl <;> rfl

/-- Settles O17: every row of a port is an arrival there, and a port that transmits does not hear. -/
theorem transmittingPortsAreDeaf : Obligations.TransmittingPortsAreDeaf := by
  unfold Obligations.TransmittingPortsAreDeaf
  intro s
  refine ⟨fun htx => ?_, fun htx => ?_⟩
  · have hdeaf (j : Judged) : s.fieldArrival j = s := State.fieldArrival_deaf (fun hon => htx hon.2) j
    exact ⟨fun _ => congrArg _ (hdeaf _), fun _ _ _ _ _ _ => congrArg _ (hdeaf _), fun _ _ _ _ => congrArg _ (hdeaf _)⟩
  · have hdeaf (j : Judged) : s.lineArrival j = s := State.lineArrival_deaf (.inr htx) j
    refine ⟨fun _ => ⟨congrArg _ (hdeaf _), congrArg _ (hdeaf _)⟩, fun _ => congrArg _ (hdeaf _),
      fun _ _ _ _ _ => congrArg _ (hdeaf _), fun _ _ _ => congrArg _ (hdeaf _), fun _ _ => congrArg _ (hdeaf _), ?_⟩
    intro c hdr tag ps
    rw [exec_row, hdeaf]

/-! ## Evaluation of a field frame (R18) -/

theorem exec_fieldFrame_checked {s : State} {run : List RxChar} {f : Frame} (hon : s.fieldOn)
    (hrun : judgeRun run = .checked f) : exec (.fieldFrameReceived run) s = .next ((s.fieldHeard f).evaluate f) := by
  rw [← State.fieldArrival_checked hon f, ← hrun]
  rfl

theorem State.evaluate_config {s : State} (h : s.mode = .config) (f : Frame) : s.evaluate f = s := by
  unfold State.evaluate
  rw [h]

theorem State.evaluate_unclaimed {s : State} {f : Frame} (h : s.tables.slotOfNode f.hdr.srcNode = none) :
    s.evaluate f = s := by
  unfold State.evaluate
  rw [h]
  cases s.mode <;> rfl

theorem State.evaluate_claimed {s : State} {f : Frame} {k : Fin 32} (hm : s.mode = .run)
    (hk : s.tables.slotOfNode f.hdr.srcNode = some k) : s.evaluate f =
      if f.kind = 0x11 then s.lifeFrame k (lifeFields f.payload)
      else if f.kind = 0x12 then s.wheelFrame k (byteAt f.payload 0) (byteAt f.payload 1) (wheelEdges f.payload)
      else s.countUnknown := by
  unfold State.evaluate
  rw [hm, hk]
  rfl

/-- Settles O18: mode, claiming slot and kind decide the evaluation. -/
theorem fieldFramesAreEvaluated : Obligations.FieldFramesAreEvaluated := by
  unfold Obligations.FieldFramesAreEvaluated
  intro s run f hon hrun u
  have hexec : exec (.fieldFrameReceived run) s = .next (u.evaluate f) := exec_fieldFrame_checked hon hrun
  rw [hexec]
  refine ⟨fun hm => ?_, fun hno => ?_, fun k hm hk => ?_⟩
  · rw [State.evaluate_config (show u.mode = _ from hm)]
  · rw [State.evaluate_unclaimed (s := u) (State.slotOfNode_none hno)]
  · rw [State.evaluate_claimed (s := u) hm (State.slotOfNode_claims hk)]
    refine ⟨fun hkind => ?_, fun hkind => ?_, fun hlife hwheel => ?_⟩
    · rw [if_pos hkind]
    · rw [if_neg (by rw [hkind]; decide), if_pos hkind]
    · rw [if_neg hlife, if_neg hwheel, State.countUnknown_eq]

/-! ## Forwarding of a field frame (R19, R13) -/

/-- A masked comparison looks at the bits the mask leaves clear (R19). -/
theorem maskedEq_iff (mask a b : Byte) :
    maskedEq mask a b = true ↔ ∀ i, i < 8 → mask.getLsbD i = false → a.getLsbD i = b.getLsbD i := by
  unfold maskedEq
  rw [beq_iff_eq]
  constructor
  · intro h i hi hm
    have hbit := congrArg (·.getLsbD i) h
    rw [BitVec.getLsbD_and, BitVec.getLsbD_xor, BitVec.getLsbD_not, hm] at hbit
    simpa [hi] using hbit
  · intro h
    apply BitVec.eq_of_getLsbD_eq
    intro i hi
    rw [BitVec.getLsbD_and, BitVec.getLsbD_xor, BitVec.getLsbD_not]
    cases hm : mask.getLsbD i with
    | false => simp [h i hi hm]
    | true => simp

theorem FilterRec.hits_iff (r : FilterRec) (f : Frame) : r.hits f = true ↔ r.enabled = true ∧
    (∀ i, i < 8 → r.mask.getLsbD i = false → f.hdr.srcNode.getLsbD i = r.node.getLsbD i) ∧
    (f.kind = 0x11 → r.includeLife = true) := by
  simp only [FilterRec.hits, Bool.and_eq_true, maskedEq_iff, Bool.or_eq_true, bne_iff_ne, and_assoc, kindLife, ne_eq,
    ← imp_iff_not_or]

theorem State.forwards_iff (s : State) (f : Frame) : s.forwards f = true ↔
    s.tables.part.recorder ≠ 0 ∧ ∃ e : Fin 4, s.tables.filters[e].hits f = true := by
  simp [State.forwards, List.any_eq_true]

/-- The evaluation of a field frame moves neither the line port nor the dropped-copy tally. -/
theorem State.evaluate_ports (s : State) (f : Frame) :
    (s.evaluate f).linePort = s.linePort ∧ (s.evaluate f).tallies.forwardDropped = s.tallies.forwardDropped :=
  State.evaluate_cases (P := fun t => t.linePort = s.linePort ∧ t.tallies.forwardDropped = s.tallies.forwardDropped) s f
    ⟨rfl, rfl⟩ ⟨rfl, rfl⟩ (fun _ _ => ⟨State.lifeFrame_linePort .., by rw [State.lifeFrame_tallies]⟩)
    (fun _ _ => ⟨State.wheelFrame_linePort .., by rw [State.wheelFrame_tallies]⟩)

/-- Settles O19: the evaluation keeps what the forwarding did, and the filters say which frames are copied. -/
theorem fieldFramesAreForwarded : Obligations.FieldFramesAreForwarded := by
  unfold Obligations.FieldFramesAreForwarded
  intro s run f hon hrun
  refine ⟨_, exec_fieldFrame_checked hon hrun, ?_⟩
  obtain ⟨hport, htally⟩ := (s.fieldHeard f).evaluate_ports f
  rw [hport, htally]
  simp only [← FilterRec.hits_iff, ← State.forwards_iff]
  refine ⟨fun hno => ?_, fun hwanted hroom => ?_, fun hwanted hfull => ?_⟩
  · simp [State.fieldHeard, hno]
  · simp [State.fieldHeard, hwanted, hroom, not_le.mpr hroom, State.stamped, State.ownByte]
  · simp [State.fieldHeard, hwanted, hfull, not_lt.mpr hfull, State.stamped, State.ownByte]

/-! ## Routing of a line frame (R15 to R17) -/

theorem exec_lineFrame_checked {s : State} {run : List RxChar} {f : Frame} (hon : s.lineOn)
    (hrun : judgeRun run = .checked f) : exec (.lineFrameReceived run) s = .next ((s.heard f).routeLine f) := by
  rw [← State.lineArrival_checked hon f, ← hrun]
  rfl

theorem State.routeLine_elsewhere {s : State} {f : Frame} (h : s.pins.ownStation ≠ some f.hdr.dstStation) :
    s.routeLine f = s.countMisrouted := by
  rw [State.routeLine, if_pos (by simpa [State.forUs] using h)]

theorem State.routeLine_part {s : State} {f : Frame} (h : s.pins.ownStation = some f.hdr.dstStation)
    (h0 : f.hdr.dstNode = 0) : s.routeLine f =
      if f.kind = 0x41 then s.request f
      else if f.kind = 0x31 then s.relayIn f
      else if f.kind = 0x61 then s
      else s.countUnknown := by
  rw [State.routeLine, if_neg (by simpa [State.forUs] using h), if_pos h0]
  rfl

theorem State.routeLine_node {s : State} {f : Frame} (h : s.pins.ownStation = some f.hdr.dstStation)
    (h0 : f.hdr.dstNode ≠ 0) : s.routeLine f = if f.kind = 0x21 then s.headOrder f else s.countUnknown := by
  rw [State.routeLine, if_neg (by simpa [State.forUs] using h), if_neg h0]
  rfl

/-- Settles O20: station, node and kind decide the destination. -/
theorem lineFramesAreRouted : Obligations.LineFramesAreRouted := by
  unfold Obligations.LineFramesAreRouted
  intro s run f hon hrun u
  have hexec : exec (.lineFrameReceived run) s = .next (u.routeLine f) := exec_lineFrame_checked hon hrun
  rw [hexec]
  refine ⟨fun hst => ?_, fun hst hnode => ?_, fun hst hnode => ?_⟩
  · rw [State.routeLine_elsewhere (show u.pins.ownStation ≠ _ from hst), State.countMisrouted_eq]
  · rw [State.routeLine_part (show u.pins.ownStation = _ from hst) hnode]
    refine ⟨fun hk => ?_, fun hk => ?_, fun hk => ?_, fun hrequest hrelay hkeep => ?_⟩
    · rw [if_pos hk]
    · rw [if_neg (by rw [hk]; decide), if_pos hk]
    · rw [if_neg (by rw [hk]; decide), if_neg (by rw [hk]; decide), if_pos hk]
    · rw [if_neg hrequest, if_neg hrelay, if_neg hkeep, State.countUnknown_eq]
  · rw [State.routeLine_node (show u.pins.ownStation = _ from hst) hnode]
    refine ⟨fun hk => ?_, fun hk => ?_⟩
    · rw [if_pos hk]
    · rw [if_neg hk, State.countUnknown_eq]

/-- Settles O21: a KEEP only holds the link, and is counted where it is for somebody else. -/
theorem keepHoldsTheLinkUp : Obligations.KeepHoldsTheLinkUp := by
  unfold Obligations.KeepHoldsTheLinkUp
  intro s hdr hon u
  have hexec : exec (.keep hdr) s = .next (u.routeLine (keepOperand hdr)) :=
    congrArg _ (State.lineArrival_checked hon (keepOperand hdr))
  rw [hexec]
  refine ⟨fun hst hnode => ?_, fun hst hnode => ?_, fun hst => ?_⟩
  · rw [State.routeLine_part (show u.pins.ownStation = _ from hst) hnode]
    rfl
  · have hkind : (keepOperand hdr).kind ≠ 0x21 := (by decide : kindKeep ≠ 0x21)
    rw [State.routeLine_node (show u.pins.ownStation = _ from hst) hnode, if_neg hkind, State.countUnknown_eq]
  · rw [State.routeLine_elsewhere (show u.pins.ownStation ≠ _ from hst), State.countMisrouted_eq]

end Sys2Proof.Machine
end

section
/-! SUPPORT. Head orders and requests, step by step (R17, R163), and the simple rows of the timers, the field
transmitter and the reset. -/

namespace Sys2Proof.Machine

/-! ## Head orders (R17) -/

theorem isStation_iff (named sender : Byte) : isStation named sender = true ↔ named ≠ 0 ∧ named = sender := by
  simp [isStation]

theorem State.orderPermitted_iff (s : State) (hdr : Header) :
    s.orderPermitted hdr.srcStation = true ↔ s.mayOrder hdr := by
  simp [State.orderPermitted, State.mayOrder, State.fromInterlocking, isStation_iff, or_assoc]

theorem PartRec.inWindow_iff (r : PartRec) (node : Byte) : r.inWindow node = true ↔
    ¬(r.passFirst = 0 ∧ r.passLast = 0) ∧ r.passFirst.toNat ≤ node.toNat ∧ node.toNat ≤ r.passLast.toNat := by
  simp only [PartRec.inWindow, Bool.and_eq_true, Bool.not_eq_true', ← Bool.not_eq_true, beq_iff_eq, decide_eq_true_eq,
    and_assoc]

theorem Tables.slotOfNode_isSome (t : Tables) (node : Byte) :
    (t.slotOfNode node).isSome = true ↔ ∃ k : Fin 32, t.heads[k].used = true ∧ t.heads[k].address = node := by
  simp [Tables.slotOfNode, lowest, List.find?_isSome]

theorem State.hasRoute_iff (s : State) (hdr : Header) : s.hasRoute hdr.dstNode = true ↔ s.orderRoute hdr := by
  simp only [State.hasRoute, State.orderRoute, Bool.or_eq_true, beq_iff_eq, Tables.slotOfNode_isSome,
    PartRec.inWindow_iff, or_assoc]

/-- A refused head order is answered while there is space, and counted else (R12). -/
theorem State.refuseOrder_eq (s : State) (f : Frame) (r : Reply) : s.refuseOrder f r =
    if 8 ≤ s.linePort.answers.length then
      { s with tallies := { s.tallies with droppedRequest := oneMore s.tallies.droppedRequest } }
    else s.answered f.hdr 0x00 (byteAt f.payload 0) r := by
  rw [← State.countDroppedRequest_eq]
  unfold State.refuseOrder
  by_cases h : 8 ≤ s.linePort.answers.length
  · rw [if_pos h, if_pos (s.answersFull_iff.mpr h)]
  · rw [if_neg h, if_neg (mt s.answersFull_iff.mp h)]
    rfl

section
variable {s : State} {f : Frame}

/-- Step 1 of R17: the sender. -/
theorem State.judgeOrder_notPermitted (h1 : ¬s.mayOrder f.hdr) :
    s.judgeOrder f = some ⟨.notPermitted, [f.hdr.dstNode]⟩ := by
  rw [← State.orderPermitted_iff, Bool.not_eq_true] at h1
  simp only [State.judgeOrder, h1, Bool.not_false, if_true]

/-- Step 2 of R17: the route. -/
theorem State.judgeOrder_noRoute (h1 : s.mayOrder f.hdr) (h2 : ¬s.orderRoute f.hdr) :
    s.judgeOrder f = some ⟨.noRoute, [f.hdr.dstNode]⟩ := by
  rw [← State.orderPermitted_iff] at h1
  rw [← State.hasRoute_iff, Bool.not_eq_true] at h2
  simp only [State.judgeOrder, h1, h2, Bool.not_false, Bool.not_true, if_true, Bool.false_eq_true, if_false]

/-- Steps 3 and 4 of R17: the space of the field order queue, then the intercept. -/
theorem State.judgeOrder_routed (h1 : s.mayOrder f.hdr) (h2 : s.orderRoute f.hdr) : s.judgeOrder f =
    if 8 ≤ s.fieldPort.orders.length then some ⟨.fieldBusy, [f.hdr.dstNode]⟩
    else (s.intercept (byteAt f.payload 0) f.hdr.dstNode).map fun k =>
      ⟨.testBlocked, [f.hdr.dstNode, BitVec.ofNat 8 k.val]⟩ := by
  rw [← State.orderPermitted_iff] at h1
  rw [← State.hasRoute_iff] at h2
  simp only [State.judgeOrder, h1, h2, Bool.not_true, Bool.false_eq_true, if_false, Config.orderSpace]
  cases s.intercept (byteAt f.payload 0) f.hdr.dstNode <;> rfl

end

/-- A head order for a node of the part reaches the intercept's steps. -/
theorem State.order_arrives {s : State} {hdr : Header} (h : s.forPart hdr) (h0 : hdr.dstNode ≠ 0) (code : Byte)
    (params : List Byte) (hl : params.length ≤ 63) : exec (.order hdr code params) s =
      .next ((s.heard (orderOperand hdr code params)).headOrder (orderOperand hdr code params)) := by
  have hexec : exec (.order hdr code params) s = .next (s.lineArrival (judgeFrame (orderOperand hdr code params))) := rfl
  rw [hexec, judge_order _ _ _ hl, State.lineArrival_checked h.1,
    State.routeLine_node (f := orderOperand hdr code params) (show (s.heard _).pins.ownStation = _ from h.2) h0]
  rfl

/-- The intercept has nothing to judge: another code than TEST_START, or CONFIG (R151). -/
theorem State.intercept_passes {s : State} {code : Byte} (h : code ≠ 0x01 ∨ s.mode = .config) (node : Byte) :
    s.intercept code node = none := by
  refine if_neg fun ⟨hrun, hcode⟩ => ?_
  rcases h with h | h
  · exact h hcode
  · rw [hrun] at h
    cases h

theorem State.testHeads_passes {s : State} {f : Frame} (h : byteAt f.payload 0 ≠ 0x01 ∨ s.mode = .config) :
    s.testHeads f = s := by
  refine if_neg fun ⟨hrun, hcode⟩ => ?_
  rcases h with h | h
  · exact h hcode
  · rw [hrun] at h
    cases h

theorem State.headOrder_refused {s : State} {f : Frame} {r : Reply} (h : s.judgeOrder f = some r) :
    s.headOrder f = s.refuseOrder f r := by
  unfold State.headOrder
  rw [h]

theorem State.headOrder_queued {s : State} {f : Frame} (h : s.judgeOrder f = none) :
    s.headOrder f = (s.queueOrder f).testHeads f := by
  unfold State.headOrder
  rw [h]

/-- Settles O27: the first failing step gives the refusal, and an order past them all joins the queue. -/
theorem headOrdersAreJudged : Obligations.HeadOrdersAreJudged := by
  unfold Obligations.HeadOrdersAreJudged
  intro s hdr code params hl hfor hnode f u become refused
  have hexec : exec (.order hdr code params) s = .next (u.headOrder f) := State.order_arrives hfor hnode code params hl
  have hbecome (t : State) (ht : u.headOrder f = t) : become t := by
    refine ⟨hexec.trans (congrArg _ ht), fun hcode => ?_⟩
    subst hcode
    exact hexec.trans (congrArg _ ht)
  have hrefused (r : Result) (hr : u.judgeOrder f = some ⟨r, [hdr.dstNode]⟩) : refused r := by
    have hto := (State.headOrder_refused hr).trans (u.refuseOrder_eq f _)
    exact ⟨fun hroom => hbecome _ (hto.trans (if_neg (not_le.mpr hroom))), fun hfull => hbecome _ (hto.trans (if_pos hfull))⟩
  refine ⟨fun h1 => hrefused _ (State.judgeOrder_notPermitted (s := u) (f := f) h1),
    fun h1 h2 => hrefused _ (State.judgeOrder_noRoute (s := u) (f := f) h1 h2), fun h1 h2 h3 => hrefused _ ?_,
    fun h1 h2 h3 hpass => hbecome _ ?_⟩
  · rw [State.judgeOrder_routed (s := u) (f := f) h1 h2]
    exact if_pos h3
  · have hjudged : u.judgeOrder f = none := by
      have hnone : u.intercept (byteAt f.payload 0) f.hdr.dstNode = none := State.intercept_passes (s := u) hpass _
      rw [State.judgeOrder_routed (s := u) (f := f) h1 h2, hnone]
      exact if_neg (not_le.mpr h3)
    rw [State.headOrder_queued hjudged]
    exact State.testHeads_passes (s := u.queueOrder f) hpass

/-! ## Requests (R163) -/

/-- A request is counted, not executed, while the answer queue is full or a restart is pending. -/
theorem State.request_dropped {s : State} (f : Frame) (h : 8 ≤ s.linePort.answers.length ∨ s.pendingRestart = true) :
    s.request f = s.countDroppedRequest := by
  unfold State.request
  split
  · rfl
  · next hroom =>
    rw [State.answersFull_iff] at hroom
    exact if_pos (h.resolve_left hroom)

theorem State.request_executed {s : State} (f : Frame) (hroom : s.linePort.answers.length < 8)
    (hr : s.pendingRestart = false) : s.request f = s.execute f := by
  rw [State.request, if_neg (by rw [State.answersFull_iff]; omega), if_neg (by rw [hr]; exact Bool.false_ne_true)]

/-- Step 3 of R163: a code that 1.3 does not list. -/
theorem State.execute_unknown {s : State} {f : Frame} (h : ∀ c : RequestCode, c.byte ≠ byteAt f.payload 0) :
    s.execute f = s.reply f ⟨.unknown, []⟩ false := by
  have hno : RequestCode.ofByte (byteAt f.payload 0) = none := by
    rw [RequestCode.ofByte, List.find?_eq_none]
    intro c _
    simpa using h c
  unfold State.execute
  rw [hno]

/-- Steps 4 and 5 of R163, then the action. -/
theorem State.execute_row (s : State) (hdr : Header) (c : RequestCode) (tag : Byte) (params : List Byte) :
    s.execute (requestOperand hdr c tag params) =
      if ¬c.lengthOk params.length then s.answered hdr c.byte tag ⟨.badLength, []⟩
      else if ¬s.permitted c hdr.srcStation then s.answered hdr c.byte tag ⟨.notPermitted, []⟩
      else (s.act c params).1.answered hdr c.byte tag (s.act c params).2 (c == .restart) := by
  have hcode : RequestCode.ofByte (byteAt (requestOperand hdr c tag params).payload 0) = some c :=
    RequestCode.ofByte_byte c
  unfold State.execute
  rw [hcode]
  simp only [Bool.not_eq_true', Bool.not_eq_true]
  rfl

/-- Settles O50: the steps of R163 in order. -/
theorem requestsAreJudgedInOrder : Obligations.RequestsAreJudgedInOrder := by
  unfold Obligations.RequestsAreJudgedInOrder
  intro s hdr hfor hnode
  refine ⟨fun c tag params hl => ?_, fun run code tag params hrun hcode hroom hr => ?_⟩
  · have hexec := State.request_arrives hfor hnode c tag params hl
    unfold State.answersOnly
    rw [hexec]
    generalize hu : s.heard (requestOperand hdr c tag params) = u
    have hanswers : u.linePort.answers = s.linePort.answers := by rw [← hu, State.heard_answers]
    have hpending : u.pendingRestart = s.pendingRestart := by rw [← hu, State.heard_pendingRestart]
    have hallowed : u.allowed c hdr ↔ s.allowed c hdr := by rw [← hu]; exact Iff.rfl
    rw [← hanswers, ← hpending, ← hallowed]
    refine ⟨fun hdrop => ?_, fun hroom hr hlen => ?_, fun hroom hr hlen hperm => ?_⟩
    · rw [State.request_dropped _ hdrop, State.countDroppedRequest_eq]
    · rw [State.request_executed _ hroom hr, State.execute_row, if_pos (mt (RequestCode.lengthOk_iff c _).mp hlen)]
    · rw [State.request_executed _ hroom hr, State.execute_row,
        if_neg (not_not_intro ((RequestCode.lengthOk_iff c _).mpr hlen)), if_pos (mt (State.permitted_iff _ c hdr).mp hperm)]
  · have hexec := exec_lineFrame_checked hfor.1 hrun
    rw [hexec]
    generalize hu : s.heard ⟨hdr, 0x41, code :: tag :: params⟩ = u
    have hstation : u.pins.ownStation = some hdr.dstStation := by rw [← hu]; exact hfor.2
    rw [State.routeLine_part (f := ⟨hdr, 0x41, code :: tag :: params⟩) hstation hnode, if_pos rfl,
      State.request_executed _ (by rw [← hu]; exact hroom) (by rw [← hu]; exact hr),
      State.execute_unknown (f := ⟨hdr, 0x41, code :: tag :: params⟩) hcode]
    rfl

/-! ## Timers, the field transmitter and the hardware reset -/

theorem State.whenUp_eq {s : State} (h : s.pins.resetLow = false) (t : State) : s.whenUp t = t := by
  rw [State.whenUp, h]
  exact if_neg Bool.false_ne_true

/-- An expiry that acts when its timer is due acts when part time has reached it, and changes nothing before. -/
theorem next_if_due (t : Timer) (now : Time) (s u : State) :
    let taken : Host.Outcome State Fault Refusal := .next (if t.due now then u else s)
    (t.reached now → taken = .next u) ∧ (¬t.reached now → taken = .next s) := by
  rw [← Timer.due_iff]
  exact ⟨fun h => congrArg _ (if_pos h), fun h => congrArg _ (if_neg h)⟩

/-- Settles O22: each timer's expiry acts when it is due, and changes nothing else. -/
theorem portTimersExpire : Obligations.PortTimersExpire := by
  unfold Obligations.PortTimersExpire
  refine ⟨fun s hup => ?_, fun s hup => ⟨fun k => ?_, ?_⟩⟩
  · have hexec : exec .silenceTimerExpiry s = .next s.silenceExpiry := congrArg _ (State.whenUp_eq hup _)
    rw [hexec]
    exact next_if_due s.linePort.silence s.partTime s s.enterDown
  · have hexec : exec (.relayTimerExpiry k) s = .next (s.relayExpiry k) := congrArg _ (State.whenUp_eq hup _)
    rw [hexec]
    exact next_if_due s.relayOut[k].timer s.partTime s _
  · have hexec : exec .roundTimerExpiry s = .next s.roundExpiry := congrArg _ (State.whenUp_eq hup _)
    rw [hexec]
    exact next_if_due s.notice.roundTimer s.partTime s _

/-- Settles O26: the transmitter starts an order when it is free and one waits. -/
theorem fieldTransmitterSendsOrders : Obligations.FieldTransmitterSendsOrders := by
  unfold Obligations.FieldTransmitterSendsOrders
  intro s hup
  have hexec : exec .fieldOrderTransmit s = .next s.startOrder := congrArg _ (State.whenUp_eq hup _)
  rw [hexec]
  refine ⟨fun f rest htx horders => ?_, fun hno => ?_, congrArg _ (State.whenUp_eq hup _)⟩
  · unfold State.startOrder
    rw [htx, horders]
    rfl
  · unfold State.startOrder
    split
    · next htx horders => simp [htx, horders] at hno
    · rfl
    · rfl

/-- Settles O3: the reset state's fields, and the levels the board keeps. -/
theorem hardwareResetValues : Obligations.HardwareResetValues := by
  unfold Obligations.HardwareResetValues
  have hboard (l : Fin 8) : State.reset.lines[l].board = .high := by
    rw [show State.reset.lines = Vector.replicate 8 .reset from rfl, replicate_get]
    rfl
  refine ⟨⟨?_, rfl, hboard⟩, fun straps ratePin s => rfl⟩
  have hlines : (tab fun l => { LineRun.reset with board := State.reset.lines[l].board }) = State.reset.lines := by
    refine table_ext _ _ fun l => ?_
    rw [tab_get, hboard, show State.reset.lines = Vector.replicate 8 .reset from rfl, replicate_get]
    rfl
  exact congrArg (fun v => Host.Outcome.next { State.reset with lines := v }) hlines

end Sys2Proof.Machine
end

section
/-! SUPPORT. LIFE frames (R23 to R31, R38): the way to a head's record, adoption, and the checks of an accepted LIFE. -/

namespace Sys2Proof.Machine

/-- A LIFE for a claimed slot in RUN is handed to its supervisor. -/
theorem State.life_arrives {s : State} {hdr : Header} {k : Fin 32} (h : s.toSupervisor hdr k) (q : Byte) (ts : Half)
    (a b st : Byte) : exec (.life hdr q ts a b st) s =
      .next ((s.fieldHeard (lifeOperand hdr q ts a b st)).commitHead k
        (s.heads[k].life ⟨q, ts, a, b, st⟩ s.partTime (s.headTimer k))) := by
  obtain ⟨hon, hmode, hclaim⟩ := h
  have hexec : exec (.life hdr q ts a b st) s = .next (s.fieldArrival (judgeFrame (lifeOperand hdr q ts a b st))) := rfl
  have hslot : (s.fieldHeard (lifeOperand hdr q ts a b st)).tables.slotOfNode (lifeOperand hdr q ts a b st).hdr.srcNode =
      some k := State.slotOfNode_claims hclaim
  have hmode' : (s.fieldHeard (lifeOperand hdr q ts a b st)).mode = .run := hmode
  rw [hexec, judge_life, State.fieldArrival_checked hon, State.evaluate_claimed hmode' hslot,
    if_pos (show (lifeOperand hdr q ts a b st).kind = 0x11 from rfl), lifeFields_operand]
  rfl

/-! ## What a LIFE reports (1.2, R4, R24) -/

theorem LifeFields.anyFailed_iff (f : LifeFields) : f.anyFailed = true ↔ f.healthA = .failed ∨ f.healthB = .failed := by
  simp [LifeFields.anyFailed]

theorem LifeFields.adopts_iff (f : LifeFields) : f.adopts = true ↔
    f.stateByte.getLsbD 4 = false ∧ f.stateByte.getLsbD 5 = false ∧ f.stateByte.getLsbD 6 = false ∧
      f.healthA ≠ .failed ∧ f.healthB ≠ .failed := by
  simp only [LifeFields.adopts, LifeFields.test, LifeFields.covered, Bool.and_eq_true, Bool.not_eq_true', Bool.or_eq_false_iff,
    ← Bool.not_eq_true f.anyFailed, LifeFields.anyFailed_iff, not_or, and_assoc, ne_eq]

/-! ## Adoption (R24, R25, R38) -/

theorem HeadRun.life_waiting {h : HeadRun} (hs : h.state = .awaiting ∨ h.state = .inTest) (f : LifeFields) (now : Time)
    (t : Timer) : h.life f now t = h.attempt f now t := by
  unfold HeadRun.life
  rcases hs with hs | hs <;> rw [hs]

/-- Settles O31: the adoption attempt's three outcomes. -/
theorem lifeAdoptsAWaitingHead : Obligations.LifeAdoptsAWaitingHead := by
  unfold Obligations.LifeAdoptsAWaitingHead
  intro s hdr seq ts a b st k hto hs u h health healthA healthB clean
  have hexec := State.life_arrives hto seq ts a b st
  rw [HeadRun.life_waiting hs, HeadRun.attempt] at hexec
  have hclean : (⟨seq, ts, a, b, st⟩ : LifeFields).adopts = true ↔ clean := LifeFields.adopts_iff _
  refine ⟨fun hc => ?_, fun hc hkept => ?_, fun haw htest => ?_⟩
  · rw [hexec, if_pos (hclean.mpr hc)]
    rfl
  · rw [hexec, if_neg (mt hclean.mp hc), if_neg]
    · rfl
    · rintro ⟨htest, haw⟩
      rcases hkept with hin | hclear
      · exact absurd (hin.symm.trans haw) (by decide)
      · exact Bool.false_ne_true (hclear.symm.trans htest)
  · rw [hexec, if_neg, if_pos ⟨htest, haw⟩]
    · rfl
    · exact fun hc => Bool.false_ne_true ((hclean.mp hc).1.symm.trans htest)

/-! ## A LIFE in sequence (R26, R28 to R31) -/

theorem judgeSeq_next (q : Byte) : judgeSeq (some q) q = .next := if_pos rfl

theorem HeadRun.life_next {h : HeadRun} {f : LifeFields} (hs : h.state.chained) (hq : h.expected = some f.seq) (now : Time)
    (t : Timer) : h.life f now t = (h.accept f.seq t).lifeChecks f now := by
  unfold HeadRun.life
  rw [hq, judgeSeq_next]
  rcases hs with hs | hs | hs <;> rw [hs]

/-- The record with the anchor moved to a LIFE, the held times raised, the strikes counted (R30, R31, R49). -/
def HeadRun.anchored (h : HeadRun) (a : Anchor) (stamp : Half) (now : Time) : HeadRun :=
  { h with strikes := strikesAfter a now stamp h.strikes, anchor := some ⟨lifeTime a now stamp, now⟩,
           recog := h.recog.raise (lifeTime a now stamp) }

theorem HeadRun.moveAnchor_eq {h : HeadRun} {a : Anchor} (ha : h.anchor = some a) (stamp : Half) (now : Time) :
    h.moveAnchor stamp now = h.anchored a stamp now := by
  simp only [HeadRun.moveAnchor, HeadRun.anchorFor, ha, Option.getD_some, HeadRun.anchored]

/-- The checks of R28 in order, at a head that holds an anchor. -/
theorem HeadRun.lifeChecks_eq {h : HeadRun} {a : Anchor} (ha : h.anchor = some a) (f : LifeFields) (now : Time) :
    h.lifeChecks f now =
      if f.anyFailed then (h.withHealth f).enterFaulty .sensorFailed
      else if f.tallyA ≠ h.recvA ∨ f.tallyB ≠ h.recvB then (h.withHealth f).enterFaulty .edgeTally
      else if clockFails a now f.stamp h.strikes then ((h.withHealth f).anchored a f.stamp now).enterFaulty .clock
      else if f.test then ((h.withHealth f).anchored a f.stamp now).enterTest
      else (h.withHealth f).anchored a f.stamp now := by
  have hg : (h.withHealth f).anchor = some a := ha
  have hfor : (h.withHealth f).anchorFor f.stamp now = a := by rw [HeadRun.anchorFor, hg, Option.getD_some]
  simp only [HeadRun.lifeChecks, HeadRun.moveAnchor_eq hg, hfor]
  rfl

theorem Anchor.stale_iff (a : Anchor) (now : Time) : a.stale now = true ↔ 1000000 < (now - a.part).toNat :=
  decide_eq_true_iff

theorem lifeTime_eq (a : Anchor) (now : Time) (stamp : Half) : lifeTime a now stamp =
    if 1000000 < (now - a.part).toNat then a.ext + (now - a.part)
    else a.ext + (now - a.part) + BitVec.ofInt 32 (a.deviation now stamp) := by
  simp only [lifeTime, Anchor.stale_iff]
  rfl

theorem strikeInc_val (n : Fin 4) : (strikeInc n).val = min 3 (n.val + 1) := by revert n; decide

section
variable {a : Anchor} {now : Time} {stamp : Half} {old : Fin 4}

/-- A stale anchor skips the clock check (R30). -/
theorem strikes_of_stale (h : 1000000 < (now - a.part).toNat) :
    strikesAfter a now stamp old = old ∧ clockFails a now stamp old = false := by
  have hstale : a.stale now = true := (Anchor.stale_iff a now).mpr h
  exact ⟨if_pos hstale, by simp [clockFails, hstale]⟩

/-- A deviation within the allowance clears the strikes (R30). -/
theorem strikes_of_fit (h : (now - a.part).toNat ≤ 1000000)
    (hfit : (a.deviation now stamp).natAbs ≤ (now - a.part).toNat / 32 + 50) :
    strikesAfter a now stamp old = 0 ∧ clockFails a now stamp old = false := by
  have hstale : ¬a.stale now = true := mt (Anchor.stale_iff a now).mp (not_lt.mpr h)
  have hfits : (a.deviation now stamp).natAbs ≤ allowance (a.advance now) := hfit
  refine ⟨(if_neg hstale).trans (if_pos hfits), ?_⟩
  simp [clockFails, not_lt.mpr hfits]

/-- A deviation above the allowance is a strike, and the third fails the check (R30). -/
theorem strikes_of_misfit (h : (now - a.part).toNat ≤ 1000000)
    (hfit : ¬(a.deviation now stamp).natAbs ≤ (now - a.part).toNat / 32 + 50) :
    strikesAfter a now stamp old = strikeInc old ∧ (clockFails a now stamp old = true ↔ 2 ≤ old.val) := by
  have hstale : ¬a.stale now = true := mt (Anchor.stale_iff a now).mp (not_lt.mpr h)
  have hfits : ¬(a.deviation now stamp).natAbs ≤ allowance (a.advance now) := hfit
  refine ⟨(if_neg hstale).trans (if_neg hfits), ?_⟩
  rw [Bool.not_eq_true] at hstale
  simp only [clockFails, hstale, not_le.mp hfits, strikeInc_val, Config.maxStrikes, Bool.not_false, decide_true,
    Bool.and_true, Bool.true_and, beq_iff_eq]
  omega

end

/-- Settles O33: the accepted record, then the checks in order. -/
theorem lifeIsCheckedInOrder : Obligations.LifeIsCheckedInOrder := by
  unfold Obligations.LifeIsCheckedInOrder
  intro s hdr seq ts a b st k an hto hs hq han u h health healthA healthB base faulty p e r ext fits moved become bad agree
  have hanchor : (h.accept seq (s.headTimer k)).anchor = some an := han
  have hexec : exec (.life hdr seq ts a b st) s = .next (u.commitHead k
      (if (⟨seq, ts, a, b, st⟩ : LifeFields).anyFailed then base.enterFaulty .sensorFailed
      else if a ≠ h.recvA ∨ b ≠ h.recvB then base.enterFaulty .edgeTally
      else if clockFails an s.partTime ts h.strikes then (base.anchored an ts s.partTime).enterFaulty .clock
      else if st.getLsbD 4 then (base.anchored an ts s.partTime).enterTest
      else base.anchored an ts s.partTime)) := by
    rw [State.life_arrives hto, HeadRun.life_next hs hq, HeadRun.lifeChecks_eq hanchor]
    rfl
  have hbad : (⟨seq, ts, a, b, st⟩ : LifeFields).anyFailed = true ↔ bad := LifeFields.anyFailed_iff _
  have hagree : (a ≠ h.recvA ∨ b ≠ h.recvB) ↔ ¬agree := not_and_or.symm
  have hmoved (strikes : Fin 4) (hst : strikesAfter an s.partTime ts h.strikes = strikes) :
      base.anchored an ts s.partTime = moved strikes := by
    have hext : lifeTime an s.partTime ts = ext := lifeTime_eq an s.partTime ts
    rw [HeadRun.anchored, hext]
    subst hst
    rfl
  refine ⟨fun hb => ?_, fun hb ha => ?_, fun hb ha hp hfit htwo => ?_, fun strikes hb ha hcase => ?_⟩ <;> unfold become
  · rw [hexec, if_pos (hbad.mpr hb)]
    rfl
  · rw [hexec, if_neg (mt hbad.mp hb), if_pos (hagree.mpr ha)]
    rfl
  · obtain ⟨hstrikes, hfails⟩ := strikes_of_misfit (old := h.strikes) hp hfit
    have hthree : strikeInc h.strikes = 3 := Fin.ext (by rw [strikeInc_val, min_eq_left (by omega)]; rfl)
    rw [hexec, if_neg (mt hbad.mp hb), if_neg (fun hne => hagree.mp hne ha), if_pos (hfails.mpr htwo),
      hmoved 3 (hstrikes.trans hthree)]
    rfl
  · have hjudged : strikesAfter an s.partTime ts h.strikes = strikes ∧ clockFails an s.partTime ts h.strikes = false := by
      rcases hcase with ⟨hp, rfl⟩ | ⟨hp, hfit, rfl⟩ | ⟨hp, hfit, htwo, hinc⟩
      · exact strikes_of_stale hp
      · exact strikes_of_fit hp hfit
      · obtain ⟨hstrikes, hfails⟩ := strikes_of_misfit (old := h.strikes) hp hfit
        refine ⟨hstrikes.trans (Fin.ext ?_), by rw [← Bool.not_eq_true, hfails]; omega⟩
        rw [strikeInc_val, hinc]
        omega
    obtain ⟨hstrikes, hfails⟩ := hjudged
    rw [hexec, if_neg (mt hbad.mp hb), if_neg (fun hne => hagree.mp hne ha), if_neg (by rw [hfails]; exact Bool.false_ne_true),
      hmoved strikes hstrikes]
    refine ⟨fun htest => ?_, fun htest => ?_⟩
    · rw [htest]
      rfl
    · rw [htest]
      rfl

end Sys2Proof.Machine
end

section
/-! SUPPORT. The line arbiter (R11, R6): the frame each class offers, the frame taken, and a discard, after which the
arbiter goes on as if the frame had never waited. -/

namespace Sys2Proof.Machine

/-! ## The frame each class of R11 offers -/

section
variable {s : State}

theorem State.takeAnswer_nil (h : s.linePort.answers = []) : s.takeAnswer = none := by
  unfold State.takeAnswer
  rw [h]

theorem State.takeAnswer_cons {a : Outgoing} {rest : List Outgoing} (h : s.linePort.answers = a :: rest) :
    s.takeAnswer = some (a, s.setLinePort { s.linePort with answers := rest }) := by
  unfold State.takeAnswer
  rw [h]

theorem State.takeRelay_none (h : ∀ k : Fin 32, s.relayOut[k].ready = false) : s.takeRelay = none := by
  unfold State.takeRelay
  rw [nextInTurn_none _ h]

theorem State.takeRelay_some {k : Fin 32} (h : FollowsInTurn s.linePort.lastSlot (fun k => s.relayOut[k].ready) k) :
    s.takeRelay = some (⟨s.relayFrame k, false⟩,
      (s.setRelayOut k s.relayOut[k].afterTaken).setLinePort { s.linePort with lastSlot := k }) := by
  unfold State.takeRelay
  rw [nextInTurn_some h]

theorem State.takeVerdict_none (h : s.notice.hold = .held ∨ ∀ k : Fin 24, s.notice.owed[k] = false) :
    s.takeVerdict = none := by
  unfold State.takeVerdict
  split
  · rfl
  · next hfree =>
    rcases h with h | h
    · rw [hfree] at h
      cases h
    · rw [nextInTurn_none _ h]

theorem State.takeVerdict_some {k : Fin 24} (hfree : s.notice.hold = .free)
    (h : FollowsInTurn s.linePort.lastSection (fun k => s.notice.owed[k]) k) :
    s.takeVerdict = some (⟨s.verdictFrame k, false⟩, (s.setOwed k false).setLinePort { s.linePort with lastSection := k }) := by
  unfold State.takeVerdict
  rw [hfree]
  dsimp only
  rw [nextInTurn_some h]

theorem State.takeRound_none (h : s.notice.roundReady = false) : s.takeRound = none := by
  rw [State.takeRound, if_neg (by rw [h]; exact Bool.false_ne_true)]

theorem State.takeRound_some (h : s.notice.roundReady = true) :
    s.takeRound = some (⟨s.roundFrame, false⟩, s.setNotice { s.notice with roundReady := false }) := if_pos h

theorem State.takeNotice_nil (h : s.watch.notices = []) : s.takeNotice = none := by
  unfold State.takeNotice
  rw [h]

theorem State.takeNotice_cons {n : Frame} {rest : List Frame} (h : s.watch.notices = n :: rest) :
    s.takeNotice = some (⟨readdressed s.tables.part.maintenance n, false⟩, s.setWatch { s.watch with notices := rest }) := by
  unfold State.takeNotice
  rw [h]

theorem State.takeForward_nil (h : s.linePort.forward = []) : s.takeForward = none := by
  unfold State.takeForward
  rw [h]

theorem State.takeForward_cons {f : Frame} {rest : List Frame} (h : s.linePort.forward = f :: rest) :
    s.takeForward = some (⟨readdressed s.tables.part.recorder f, false⟩,
      s.setLinePort { s.linePort with forward := rest }) := by
  unfold State.takeForward
  rw [h]

end

theorem readdressed_of_ne {station : Byte} (h : station ≠ 0) (f : Frame) : readdressed station f = f := if_neg h

/-- A frame built for station 0, or for a configured station that is 0 by now, has no destination (R6). -/
theorem readdressed_nowhere {station : Byte} {f : Frame} (h : f.hdr.dstStation = 0 ∨ station = 0) :
    (readdressed station f).hdr.dstStation = 0 := by
  unfold readdressed
  split
  · rfl
  · next hst => exact h.resolve_right hst

/-! ## The first ready frame in class order -/

/-- No class above a WATCH notice offers a frame. -/
def State.quietAboveNotices (s : State) : Prop :=
  s.linePort.answers = [] ∧ (∀ k : Fin 32, s.relayOut[k].ready = false) ∧
    (s.notice.hold = .held ∨ ∀ k : Fin 24, s.notice.owed[k] = false) ∧ s.notice.roundReady = false

section
variable {s : State}

theorem State.takeReady_answer {p : Outgoing × State} (h : s.takeAnswer = some p) : s.takeReady = some p := by
  rw [State.takeReady, h, Option.some_or]

theorem State.takeReady_relay {p : Outgoing × State} (ha : s.linePort.answers = []) (h : s.takeRelay = some p) :
    s.takeReady = some p := by
  rw [State.takeReady, State.takeAnswer_nil ha, h, Option.none_or, Option.some_or]

theorem State.takeReady_verdict {p : Outgoing × State} (ha : s.linePort.answers = [])
    (hr : ∀ k : Fin 32, s.relayOut[k].ready = false) (h : s.takeVerdict = some p) : s.takeReady = some p := by
  rw [State.takeReady, State.takeAnswer_nil ha, State.takeRelay_none hr, h, Option.none_or, Option.none_or, Option.some_or]

theorem State.takeReady_round {p : Outgoing × State} (ha : s.linePort.answers = [])
    (hr : ∀ k : Fin 32, s.relayOut[k].ready = false) (hv : s.notice.hold = .held ∨ ∀ k : Fin 24, s.notice.owed[k] = false)
    (h : s.takeRound = some p) : s.takeReady = some p := by
  rw [State.takeReady, State.takeAnswer_nil ha, State.takeRelay_none hr, State.takeVerdict_none hv, h, Option.none_or,
    Option.none_or, Option.none_or, Option.some_or]

theorem State.takeReady_quiet (h : s.quietAboveNotices) : s.takeReady = s.takeNotice.or s.takeForward := by
  obtain ⟨ha, hr, hv, hround⟩ := h
  rw [State.takeReady, State.takeAnswer_nil ha, State.takeRelay_none hr, State.takeVerdict_none hv,
    State.takeRound_none hround, Option.none_or, Option.none_or, Option.none_or, Option.none_or]

theorem State.takeReady_notice {n : Frame} {rest : List Frame} (h : s.quietAboveNotices)
    (hn : s.watch.notices = n :: rest) : s.takeReady =
      some (⟨readdressed s.tables.part.maintenance n, false⟩, s.setWatch { s.watch with notices := rest }) := by
  rw [State.takeReady_quiet h, State.takeNotice_cons hn, Option.some_or]

theorem State.takeReady_forward {f : Frame} {rest : List Frame} (h : s.quietAboveNotices) (hn : s.watch.notices = [])
    (hf : s.linePort.forward = f :: rest) : s.takeReady =
      some (⟨readdressed s.tables.part.recorder f, false⟩, s.setLinePort { s.linePort with forward := rest }) := by
  rw [State.takeReady_quiet h, State.takeNotice_nil hn, State.takeForward_cons hf, Option.none_or]

end

/-! ## The arbiter's turn -/

theorem State.mayTake_iff (s : State) :
    s.mayTake = true ↔ s.linePort.tx = none ∧ s.linePort.link = .up ∧ s.pins.ownStation ≠ none := by
  simp [State.mayTake, Option.isNone_iff_eq_none, Option.isSome_iff_ne_none, and_assoc]

/-- An arbiter that may not take a frame leaves everything as it is. -/
theorem State.arbitrate_stops {s : State} (h : s.mayTake = false) (fuel : Nat) : s.arbitrate fuel = s := by
  cases fuel with
  | zero => rfl
  | succ n =>
    unfold State.arbitrate
    rw [h]
    exact if_neg Bool.false_ne_true

theorem State.arbiterTurn_idle {s : State} (h : s.takeReady = none) : s.arbiterTurn = s := by
  unfold State.arbiterTurn State.arbitrate
  rw [h]
  split <;> rfl

/-- A frame with a destination starts its transmission. -/
theorem State.arbiterTurn_sends {s t : State} {o : Outgoing} (h : s.mayTake = true) (ht : s.takeReady = some (o, t))
    (hdst : o.frame.hdr.dstStation ≠ 0) : s.arbiterTurn = t.setLinePort { t.linePort with tx := some o } := by
  unfold State.arbiterTurn State.arbitrate
  rw [if_pos h, ht]
  exact if_neg hdst

/-! ## How many frames wait -/

/-- How many flags of a table are set. -/
def flagCount {n : Nat} (p : Fin n → Bool) : Nat := (Finset.univ.filter fun k => p k = true).card

/-- The frames the six classes hold. -/
def State.waiting (s : State) : Nat :=
  s.linePort.answers.length + flagCount (fun k : Fin 32 => s.relayOut[k].ready) +
    flagCount (fun k : Fin 24 => s.notice.owed[k]) + s.notice.roundReady.toNat +
    s.watch.notices.length + s.linePort.forward.length

theorem flagCount_le {n : Nat} (p : Fin n → Bool) : flagCount p ≤ n :=
  (Finset.card_filter_le _ _).trans (by rw [Finset.card_univ, Fintype.card_fin])

theorem State.waiting_le (s : State) : s.waiting ≤ s.readyBound := by
  have hrelay := flagCount_le fun k : Fin 32 => s.relayOut[k].ready
  have hverdict := flagCount_le fun k : Fin 24 => s.notice.owed[k]
  have hround := s.notice.roundReady.toNat_le
  unfold State.waiting State.readyBound
  omega

/-- One flag of a table less makes one waiting frame less. -/
theorem flagCount_lt {n : Nat} {p q : Fin n → Bool} {k : Fin n} (hk : p k = true)
    (hq : ∀ j, q j = if k = j then false else p j) : flagCount q < flagCount p := by
  refine Finset.card_lt_card ⟨fun j hj => ?_, fun hsub => ?_⟩
  · simp only [Finset.mem_filter, Finset.mem_univ, true_and, hq] at hj ⊢
    split at hj
    · cases hj
    · exact hj
  · have hmem := hsub (Finset.mem_filter.mpr ⟨Finset.mem_univ k, hk⟩)
    simp [hq] at hmem

theorem nextInTurn_holds {n : Nat} {last k : Fin n} {p : Fin n → Bool} (h : nextInTurn last p = some k) : p k = true :=
  List.find?_some h

/-- Taking a frame leaves one less, whatever its class. -/
theorem State.waiting_takeReady {s t : State} {o : Outgoing} (h : s.takeReady = some (o, t)) : t.waiting < s.waiting := by
  rcases State.takeReady_cases h with hc | hc | hc | hc | hc | hc <;> unfold State.waiting
  · unfold State.takeAnswer at hc
    split at hc
    · cases hc
    · next a rest he =>
      cases hc
      simp only [State.setLinePort_linePort, State.setLinePort_relayOut, State.setLinePort_notice,
        State.setLinePort_watch, he, List.length_cons]
      omega
  · unfold State.takeRelay at hc
    split at hc
    · cases hc
    · next k hk =>
      cases hc
      have hless := flagCount_lt (p := fun k : Fin 32 => s.relayOut[k].ready)
        (q := fun j : Fin 32 => (upd s.relayOut k s.relayOut[k].afterTaken)[j].ready) (nextInTurn_holds hk) fun j => by
          rw [upd_get]
          split <;> rfl
      simp only [State.setLinePort_linePort, State.setLinePort_relayOut, State.setLinePort_notice,
        State.setLinePort_watch, State.setRelayOut_relayOut, State.setRelayOut_notice, State.setRelayOut_watch]
      omega
  · unfold State.takeVerdict at hc
    split at hc
    · cases hc
    · split at hc
      · cases hc
      · next k hk =>
        cases hc
        have howed := nextInTurn_holds (p := fun k : Fin 24 => s.notice.owed[k]) hk
        have hless := flagCount_lt (q := fun j : Fin 24 => (upd s.notice.owed k false)[j]) howed fun j => upd_get ..
        simp only [State.setLinePort_linePort, State.setLinePort_relayOut, State.setLinePort_notice,
          State.setLinePort_watch, State.setOwed_relayOut, State.setOwed_notice, State.setOwed_watch]
        omega
  · unfold State.takeRound at hc
    split at hc
    · next hround =>
      cases hc
      simp only [State.setNotice_linePort, State.setNotice_relayOut, State.setNotice_notice,
        State.setNotice_watch, hround, Bool.toNat_true, Bool.toNat_false]
      omega
    · cases hc
  · unfold State.takeNotice at hc
    split at hc
    · cases hc
    · next n rest he =>
      cases hc
      simp only [State.setWatch_linePort, State.setWatch_relayOut, State.setWatch_notice,
        State.setWatch_watch, he, List.length_cons]
      omega
  · unfold State.takeForward at hc
    split at hc
    · cases hc
    · next f rest he =>
      cases hc
      simp only [State.setLinePort_linePort, State.setLinePort_relayOut, State.setLinePort_notice,
        State.setLinePort_watch, he, List.length_cons]
      omega

/-! ## A discard (R6) -/

theorem State.afterSent_restarts {s : State} {o : Outgoing} (hr : o.restart = true) (hp : s.pendingRestart = true) :
    s.afterSent o = s.softRestart := if_pos ⟨hr, hp⟩

theorem State.afterSent_plain {s : State} {o : Outgoing} (h : ¬(o.restart = true ∧ s.pendingRestart = true)) :
    s.afterSent o = s := if_neg h

/-- A soft restart takes the link DOWN, so the arbiter stops there (R182, R9). -/
theorem State.softRestart_mayTake (s : State) : s.softRestart.mayTake = false := by
  rw [← Bool.not_eq_true, State.mayTake_iff, State.softRestart_linePort]
  rintro ⟨-, hlink, -⟩
  cases hlink

/-- Any fuel above the number of waiting frames gives the same turn. -/
theorem State.arbitrate_fuel {n m : Nat} {s : State} (hn : s.waiting < n) (hm : s.waiting < m) :
    s.arbitrate n = s.arbitrate m := by
  induction n generalizing s m with
  | zero => exact absurd hn (Nat.not_lt_zero _)
  | succ n ih =>
    obtain ⟨m, rfl⟩ := Nat.exists_eq_succ_of_ne_zero (Nat.ne_of_gt (Nat.lt_of_le_of_lt (Nat.zero_le _) hm))
    cases hmay : s.mayTake with
    | false => rw [State.arbitrate_stops hmay, State.arbitrate_stops hmay]
    | true =>
      unfold State.arbitrate
      rw [if_pos hmay, if_pos hmay]
      split
      · rfl
      · next o t ht =>
        have hless := State.waiting_takeReady ht
        split
        · unfold State.afterSent
          split
          · rw [State.arbitrate_stops t.softRestart_mayTake, State.arbitrate_stops t.softRestart_mayTake]
          · exact ih (by omega) (by omega)
        · rfl

/-- A frame without a destination is discarded, and the turn goes on from the state without it. -/
theorem State.arbiterTurn_discards {s t : State} {o : Outgoing} (h : s.mayTake = true) (ht : s.takeReady = some (o, t))
    (hdst : o.frame.hdr.dstStation = 0) (hno : ¬(o.restart = true ∧ t.pendingRestart = true)) :
    s.arbiterTurn = t.arbiterTurn := by
  have hless := State.waiting_takeReady ht
  have hbound := s.waiting_le
  have hbound' := t.waiting_le
  unfold State.arbiterTurn
  rw [State.arbitrate, if_pos h, ht]
  dsimp only
  rw [if_pos hdst, State.afterSent_plain hno]
  exact State.arbitrate_fuel (by omega) (by omega)

/-- The discarded answer to a pending RESTART starts the soft restart, and the turn ends there. -/
theorem State.arbiterTurn_restarts {s t : State} {o : Outgoing} (h : s.mayTake = true) (ht : s.takeReady = some (o, t))
    (hdst : o.frame.hdr.dstStation = 0) (hr : o.restart = true) (hp : t.pendingRestart = true) :
    s.arbiterTurn = t.softRestart := by
  unfold State.arbiterTurn
  rw [State.arbitrate, if_pos h, ht]
  dsimp only
  rw [if_pos hdst, State.afterSent_restarts hr hp, State.arbitrate_stops t.softRestart_mayTake]

theorem exec_arbiterTake {s : State} (h : s.pins.resetLow = false) : exec .arbiterTake s = .next s.arbiterTurn :=
  congrArg _ (State.whenUp_eq h _)

theorem exec_lineTransmitDone {s : State} (h : s.pins.resetLow = false) : exec .lineTransmitDone s = .next s.lineSent :=
  congrArg _ (State.whenUp_eq h _)

/-- Settles O24: the arbiter's guard, and a discard per class. -/
theorem arbiterDiscardsAndWaits : Obligations.ArbiterDiscardsAndWaits := by
  unfold Obligations.ArbiterDiscardsAndWaits
  intro s hup
  refine ⟨fun hwait => ?_, fun htx hlink hown => ?_⟩
  · have hmay : s.mayTake = false := by
      rw [← Bool.not_eq_true, State.mayTake_iff]
      rintro ⟨htx, hlink, hown⟩
      rcases hwait with h | h | h
      · exact h htx
      · rw [hlink] at h
        cases h
      · exact hown h
    rw [exec_arbiterTake hup, State.arbiterTurn, State.arbitrate_stops hmay]
  · intro goesOnWith noRelay noVerdict
    have hmay : s.mayTake = true := s.mayTake_iff.mpr ⟨htx, hlink, hown⟩
    have hgoes {o : Outgoing} {t : State} (ht : s.takeReady = some (o, t)) (hdst : o.frame.hdr.dstStation = 0)
        (hpins : t.pins = s.pins) (hno : ¬(o.restart = true ∧ t.pendingRestart = true)) : goesOnWith t := by
      unfold goesOnWith
      rw [exec_arbiterTake hup, exec_arbiterTake (by rw [hpins]; exact hup), State.arbiterTurn_discards hmay ht hdst hno]
    refine ⟨fun a rest ha hdst => ⟨fun hno => ?_, fun hr hp => ?_⟩, fun ha k hk hdst => ?_,
      fun ha hrelay hdst => ⟨fun hfree k hk => ?_, fun hverdict hround => ?_⟩,
      fun ha hrelay hverdict hround => ⟨fun n rest hn hdst => ?_, fun f rest hn hf hdst => ?_⟩⟩
    · exact hgoes (State.takeReady_answer (State.takeAnswer_cons ha)) hdst rfl hno
    · rw [exec_arbiterTake hup,
        State.arbiterTurn_restarts hmay (State.takeReady_answer (State.takeAnswer_cons ha)) hdst hr hp]
      have hsent : State.lineSent { s with linePort := { s.linePort with answers := rest, tx := some a } } =
          (s.setLinePort { s.linePort with answers := rest, tx := none }).softRestart :=
        State.afterSent_restarts (s := s.setLinePort { s.linePort with answers := rest, tx := none }) hr hp
      rw [exec_lineTransmitDone, hsent, ← htx]
      exact hup
    · exact hgoes (State.takeReady_relay ha (State.takeRelay_some hk)) hdst rfl (fun h => Bool.false_ne_true h.1)
    · exact hgoes (State.takeReady_verdict ha hrelay (State.takeVerdict_some hfree hk)) hdst rfl
        (fun h => Bool.false_ne_true h.1)
    · exact hgoes (State.takeReady_round ha hrelay hverdict (State.takeRound_some hround)) hdst rfl
        (fun h => Bool.false_ne_true h.1)
    · exact hgoes (State.takeReady_notice ⟨ha, hrelay, hverdict, hround⟩ hn) (readdressed_nowhere hdst) rfl
        (fun h => Bool.false_ne_true h.1)
    · exact hgoes (State.takeReady_forward ⟨ha, hrelay, hverdict, hround⟩ hn hf) (readdressed_nowhere hdst) rfl
        (fun h => Bool.false_ne_true h.1)

end Sys2Proof.Machine
end

section
/-! SUPPORT. The frames the arbiter builds (R126, R142, R145) in the bytes of 1.2, and the end of a line transmission
with the soft restart (R173, R182). -/

namespace Sys2Proof.Machine

/-! ## The frames built at the moment they are taken -/

theorem codeOr0_eq {α : Type} (f : α → Byte) (o : Option α) : codeOr0 f o = (o.map f).getD 0 := by cases o <;> rfl

theorem sourceCode_eq (o : Option (Fin 40)) : sourceCode o = (o.map fun n => BitVec.ofNat 8 n.val).getD 255 := by
  cases o <;> rfl

theorem Passage.bytes_eq (p : Passage) : p.bytes = [if p.dir = .up then 0 else 1] ++ bytes16 p.speed := by
  unfold Passage.bytes
  cases p.dir <;> rfl

theorem SecRun.verdictFlags_eq (r : SecRun) :
    r.verdictFlags = (if r.repeated then 1 else 0) + (if r.warning then 2 else 0) := by
  unfold SecRun.verdictFlags
  cases r.repeated <;> cases r.warning <;> rfl

theorem State.ownFrame_addressed {s : State} {own : Byte} (h : s.pins.ownStation = some own) (station node kind : Byte)
    (payload : List Byte) : s.ownFrame station node kind payload = ⟨⟨station, node, own, 0⟩, kind, payload⟩ := by
  rw [State.ownFrame, State.ownByte, h, Option.getD_some]

theorem State.relayFrame_eq {s : State} {own : Byte} (h : s.pins.ownStation = some own) (k : Fin 32) : s.relayFrame k =
    ⟨⟨s.tables.heads[k].relayOut, 0, own, 0⟩, 0x31,
      [s.relayOut[k].seq, s.tables.heads[k].address, (reportedStatus s.heads[k].state s.relayOut[k].broken).code,
        BitVec.ofNat 8 s.relayOut[k].pending.length] ++
        s.relayOut[k].pending.flatMap fun p => [if p.dir = .up then 0 else 1] ++ bytes16 p.speed⟩ := by
  have hbytes : Passage.bytes = fun p => [if p.dir = .up then 0 else 1] ++ bytes16 p.speed := funext Passage.bytes_eq
  rw [State.relayFrame, State.ownFrame_addressed h, hbytes]
  rfl

theorem State.verdictFrame_eq {s : State} {own : Byte} (h : s.pins.ownStation = some own) (k : Fin 24) : s.verdictFrame k =
    ⟨⟨s.tables.part.interlocking, 0, own, 0⟩, 0x51,
      [BitVec.ofNat 8 k.val, if s.sections[k].state = .clear then 1 else 0, s.sections[k].state.code] ++
        bytes16 (BitVec.ofNat 16 s.sections[k].count) ++ bytes16 s.sections[k].inTally ++ bytes16 s.sections[k].outTally ++
        bytes16 s.sections[k].absorbed ++
        [(s.sections[k].cause.map Cause.code).getD 0,
          (s.sections[k].causeSource.map fun n => BitVec.ofNat 8 n.val).getD 255,
          (if s.sections[k].repeated then 1 else 0) + (if s.sections[k].warning then 2 else 0),
          (s.sections[k].restoreKind.map RestoreKind.code).getD 0]⟩ := by
  rw [State.verdictFrame, State.ownFrame_addressed h, verdictPayload, codeOr0_eq, codeOr0_eq, sourceCode_eq,
    SecRun.verdictFlags_eq]
  rfl

theorem State.roundFrame_eq {s : State} {own : Byte} (h : s.pins.ownStation = some own) : s.roundFrame =
    ⟨⟨s.tables.part.interlocking, 0, own, 0⟩, 0x52,
      [s.mode.code, 24] ++ (List.finRange 24).map fun k => s.sections[k].state.code⟩ :=
  State.ownFrame_addressed h ..

/-- Settles O23: the first class that offers a frame sends it. -/
theorem arbiterTakesInClassOrder : Obligations.ArbiterTakesInClassOrder := by
  unfold Obligations.ArbiterTakesInClassOrder
  intro s own hup htx hlink hown send noRelay noVerdict
  have hmay : s.mayTake = true := s.mayTake_iff.mpr ⟨htx, hlink, by rw [hown]; exact Option.some_ne_none _⟩
  have hsends {o : Outgoing} {t : State} (ht : s.takeReady = some (o, t)) (hdst : o.frame.hdr.dstStation ≠ 0) :
      exec .arbiterTake s = send t o.frame o.restart := by
    rw [exec_arbiterTake hup, State.arbiterTurn_sends hmay ht hdst]
    rfl
  refine ⟨fun a rest ha hdst => ?_, fun ha k hk hdst => ?_, fun ha hrelay hfree k hk hdst => ?_,
    fun ha hrelay hverdict hround hdst => ?_, fun ha hrelay hverdict hround n rest hn hdst hmaint => ?_,
    fun ha hrelay hverdict hround hn => ⟨fun f rest hf hdst hrec => ?_, fun hf => ?_⟩⟩
  · exact hsends (State.takeReady_answer (State.takeAnswer_cons ha)) hdst
  · rw [hsends (State.takeReady_relay ha (State.takeRelay_some hk)) hdst, State.relayFrame_eq hown]
    rfl
  · rw [hsends (State.takeReady_verdict ha hrelay (State.takeVerdict_some hfree hk)) hdst, State.verdictFrame_eq hown]
    rfl
  · rw [hsends (State.takeReady_round ha hrelay hverdict (State.takeRound_some hround)) hdst, State.roundFrame_eq hown]
    rfl
  · have hto := State.takeReady_notice ⟨ha, hrelay, hverdict, hround⟩ hn
    rw [readdressed_of_ne hmaint] at hto
    exact hsends hto hdst
  · have hto := State.takeReady_forward ⟨ha, hrelay, hverdict, hround⟩ hn hf
    rw [readdressed_of_ne hrec] at hto
    exact hsends hto hdst
  · have hnone : s.takeReady = none := by
      rw [State.takeReady_quiet ⟨ha, hrelay, hverdict, hround⟩, State.takeNotice_nil hn, State.takeForward_nil hf]
      rfl
    rw [exec_arbiterTake hup, State.arbiterTurn_idle hnone]

end Sys2Proof.Machine
end

section
/-! SUPPORT. The soft restart (R182), block by block, and the end of a line transmission that starts it (R173). -/

namespace Sys2Proof.Machine

/-- What a soft restart sets and keeps outside the track and the local lines. -/
theorem State.softRestart_frame (s : State) : s.softRestart =
    { s with
        pendingRestart := false
        tallies := .reset
        fieldPort := { s.fieldPort with orders := [] }
        linePort := { LinePort.reset with tx := s.linePort.tx }
        heads := s.softRestart.heads
        relayOut := s.softRestart.relayOut
        channels := s.softRestart.channels
        sections := s.softRestart.sections
        restoreTimers := Vector.replicate 24 none
        notice := ⟨s.softRestart.notice.owed, .free, s.roundTimer, false⟩
        watch := .reset
        lines := s.softRestart.lines } := by
  rcases s.mode.config_or_run with h | h
  · rw [State.softRestart_config h]; rfl
  · rw [State.softRestart_run h]; rfl

/-! ## The track after a soft restart -/

theorem State.softRestart_heads (s : State) (k : Fin 32) : s.softRestart.heads[k] =
    if s.mode = .run ∧ s.tables.heads[k].used = true then HeadRun.reset.enterAwaiting else .reset := by
  have hreset : s.restartValues.dropActivations.heads[k] = .reset := replicate_get ..
  rcases s.mode.config_or_run with h | h
  · rw [State.softRestart_config h, State.judgeLatches_heads, hreset, h, if_neg (by simp)]
  · rw [State.softRestart_run h, State.judgeLatches_heads, State.judgeWarnings_heads,
      State.runEntry_heads, hreset]
    simp only [h, true_and]
    rfl

theorem State.softRestart_channels (s : State) (c : Fin 8) : s.softRestart.channels[c] =
    if s.mode = .run ∧ s.tables.relays[c].used = true then Channel.reset.enterRun else .reset := by
  have hreset : s.restartValues.dropActivations.channels[c] = .reset := replicate_get ..
  rcases s.mode.config_or_run with h | h
  · rw [State.softRestart_config h, State.judgeLatches_channels, hreset, h, if_neg (by simp)]
  · rw [State.softRestart_run h, State.judgeLatches_channels, State.judgeWarnings_channels,
      State.runEntry_channels, hreset]
    simp only [h, true_and]
    rfl

theorem State.softRestart_owed (s : State) (k : Fin 24) :
    s.softRestart.notice.owed[k] = (s.mode == .run && s.tables.sections[k].inUse) := by
  have hreset : s.restartValues.dropActivations.notice.owed[k] = false := replicate_get ..
  rcases s.mode.config_or_run with h | h
  · rw [State.softRestart_config h, State.judgeLatches_notice, hreset, h]
    rfl
  · rw [State.softRestart_run h,
      State.judgeLatches_notice, State.judgeWarnings_notice, State.runEntry_owed, hreset, h]
    rfl

/-- Right after a restart's RUN entry no source is LATE and no head holds DEGRADED, so no warning stands (R100). -/
theorem State.restart_quiet (s : State) (n : Fin 40) :
    ¬(s.restartValues.dropActivations.runEntry .restart).troubles n := by
  have hhead (k : Fin 32) : s.restartValues.dropActivations.heads[k] = .reset := replicate_get ..
  have hchannel (c : Fin 8) : s.restartValues.dropActivations.channels[c] = .reset := replicate_get ..
  rintro (hlate | ⟨k, -, hworn⟩)
  · unfold State.sourceState at hlate
    split at hlate
    · rw [State.runEntry_heads, hhead] at hlate
      split at hlate <;> cases hlate
    · rw [State.runEntry_channels, hchannel] at hlate
      split at hlate <;> cases hlate
  · rw [State.runEntry_heads, hhead] at hworn
    split at hworn <;> rcases hworn with hworn | hworn <;> cases hworn

theorem State.softRestart_sections (s : State) (k : Fin 24) : s.softRestart.sections[k] =
    if s.mode = .run ∧ s.tables.sections[k].inUse = true then SecRun.reset.disturb .restart none s.partTime else .reset := by
  have hreset : s.restartValues.dropActivations.sections[k] = .reset := replicate_get ..
  rcases s.mode.config_or_run with h | h
  · rw [State.softRestart_config h, State.judgeLatches_sections, hreset, h,
      if_neg (by simp)]
  · have hquiet (st : SecState) : (s.restartValues.dropActivations.runEntry .restart).warningOf k st = false := by
      rw [← Bool.not_eq_true, State.warningOf_iff]
      rintro ⟨-, n, -, hn⟩
      exact s.restart_quiet n hn
    rw [State.softRestart_run h, State.judgeLatches_sections,
      State.judgeWarnings_sections, hquiet, State.runEntry_sections, hreset,
      show (s.restartValues.dropActivations.runEntry .restart).tables = s.tables from rfl,
      show s.restartValues.dropActivations.tables = s.tables from rfl, h]
    cases s.tables.sections[k].inUse <;> rfl

/-! ## The local lines after a soft restart -/

/-- A line the part does not drive is sensed from the board's level alone (R177). -/
theorem State.sensed_undriven {s : State} {l : Fin 8} (h : s.tables.lines[l].function.output = false) :
    s.sensed l = ((s.lines[l].board == .low) == (s.tables.lines[l].polarity == .normal)) := by
  have hdrive : s.drivesLow l = false := by rw [State.drivesLow, h, Bool.and_false, Bool.false_and]
  unfold State.sensed State.pinLow
  rw [hdrive, Bool.false_or]
  cases s.tables.lines[l].polarity <;> cases s.lines[l].board <;> rfl

/-- A line whose activation is dropped at a soft restart, its latch inactive. -/
def State.restartedLine (s : State) (l : Fin 8) : LineRun :=
  { s.lines[l] with
      latch := false
      activation := if s.tables.lines[l].function = .restoreIn ∧ s.sensed l = true then .spent else .idle
      timer := none }

theorem State.restart_lines (s : State) (l : Fin 8) : s.restartValues.dropActivations.lines[l] = s.restartedLine l := by
  have hlines : s.restartValues.lines[l] = { s.lines[l] with latch := false } := tab_get ..
  have hsensed : s.tables.lines[l].function = .restoreIn → s.restartValues.sensed l = s.sensed l := by
    intro hf
    have hout : s.tables.lines[l].function.output = false := by rw [hf]; rfl
    rw [State.sensed_undriven hout, State.sensed_undriven (s := s.restartValues) hout, hlines]
    rfl
  have hdropped : s.restartValues.dropActivations.lines[l] = s.restartValues.dropped l := tab_get ..
  rw [hdropped, State.dropped, hlines, show s.restartValues.tables = s.tables from rfl, State.restartedLine]
  by_cases hf : s.tables.lines[l].function = .restoreIn
  · rw [hsensed hf]
  · simp only [hf, false_and, if_false]

theorem State.judgeLatches_line (s : State) (l : Fin 8) : s.judgeLatches.lines[l] =
    if s.tables.lines[l].function.output then { s.lines[l] with latch := s.latchCondition l } else s.lines[l] := tab_get ..

/-- A soft restart's lines: an output's latch takes its condition's value, every other is inactive (R177). -/
theorem State.softRestart_lines (s : State) (l : Fin 8) :
    ∃ b, s.softRestart.lines[l] = { s.restartedLine l with latch := b } ∧
      (s.tables.lines[l].function.output = false → b = false) := by
  have hjudged (u : State) (ht : u.tables = s.tables) (hl : u.lines[l] = s.restartedLine l) :
      ∃ b, u.judgeLatches.lines[l] = { s.restartedLine l with latch := b } ∧
        (s.tables.lines[l].function.output = false → b = false) := by
    rw [State.judgeLatches_line, ht, hl]
    cases s.tables.lines[l].function.output with
    | false => exact ⟨false, rfl, fun _ => rfl⟩
    | true => exact ⟨_, rfl, fun h => nomatch h⟩
  rcases s.mode.config_or_run with h | h
  · rw [State.softRestart_config h]
    exact hjudged _ rfl (s.restart_lines l)
  · rw [State.softRestart_run h]
    exact hjudged _ rfl (s.restart_lines l)

theorem State.softRestart_follow (s : State) : s.softRestart.LatchesFollow := by
  rcases s.mode.config_or_run with h | h
  · rw [State.softRestart_config h]; exact State.judgeLatches_follow _
  · rw [State.softRestart_run h]; exact State.judgeLatches_follow _

/-! ## The end of a line transmission -/

theorem HeadRec.relays_iff (r : HeadRec) : r.relays = true ↔ r.relayOut ≠ 0 := bne_iff_ne

theorem LineFunction.output_eq_false {f : LineFunction} (hsection : f ≠ .sectionOut) (halarm : f ≠ .alarmOut) :
    f.output = false := by
  cases f with
  | sectionOut => exact absurd rfl hsection
  | alarmOut => exact absurd rfl halarm
  | off | restoreIn | inhibitIn => rfl

theorem State.lineSent_idle {s : State} (h : s.linePort.tx = none) : s.lineSent = s := by
  unfold State.lineSent
  rw [h]

theorem State.lineSent_sent {s : State} {o : Outgoing} (h : s.linePort.tx = some o) :
    s.lineSent = (s.setLinePort { s.linePort with tx := none }).afterSent o := by
  unfold State.lineSent
  rw [h]

/-- Settles O25: the transmission ends, and a RESTART's answer starts the soft restart. -/
theorem lineTransmissionsEnd : Obligations.LineTransmissionsEnd := by
  unfold Obligations.LineTransmissionsEnd
  intro s hup
  rw [exec_lineTransmitDone hup]
  refine ⟨fun htx => congrArg _ (State.lineSent_idle htx), fun o htx hno => ?_, fun o htx hr hp => ?_⟩
  · rw [State.lineSent_sent htx, State.afterSent_plain (s := s.setLinePort { s.linePort with tx := none }) hno]
    rfl
  · rw [State.lineSent_sent htx, State.afterSent_restarts (s := s.setLinePort { s.linePort with tx := none }) hr hp]
    generalize hv : s.setLinePort { s.linePort with tx := none } = v
    refine ⟨v.softRestart, rfl, ?_, fun k => ⟨?_, ?_⟩, fun c => ?_, fun k => ⟨?_, ?_⟩, v.softRestart_follow, fun l => ?_⟩
    · rw [State.softRestart_frame]
      subst hv
      rfl
    · rw [State.softRestart_heads]
      subst hv
      by_cases hc : s.mode = .run ∧ s.tables.heads[k].used = true
      · exact (if_pos hc).trans (by rw [if_pos hc]; rfl)
      · exact (if_neg hc).trans (by rw [if_neg hc]; rfl)
    · rw [State.softRestart_relayOut]
      simp only [HeadRec.relays_iff]
      subst hv
      rfl
    · rw [State.softRestart_channels]
      subst hv
      by_cases hc : s.mode = .run ∧ s.tables.relays[c].used = true
      · exact (if_pos hc).trans (by rw [if_pos hc]; rfl)
      · exact (if_neg hc).trans (by rw [if_neg hc]; rfl)
    · rw [State.softRestart_sections]
      subst hv
      rfl
    · rw [State.softRestart_owed]
      subst hv
      rfl
    · obtain ⟨b, hline, hlatch⟩ := v.softRestart_lines l
      rw [hline]
      subst hv
      exact ⟨rfl, rfl, fun hsection halarm => hlatch (LineFunction.output_eq_false hsection halarm), rfl⟩

end Sys2Proof.Machine
end

section
/-! SUPPORT. READ and STATUS (R169, R170): what each returns, and that a request whose action changes nothing is only
answered. -/

namespace Sys2Proof.Machine

/-- A request past steps 1 to 5 of R163 whose action leaves the state is only answered. -/
theorem State.answersOnly_of_act {s : State} {hdr : Header} {c : RequestCode} {tag : Byte} {params : List Byte} {r : Reply}
    (hto : s.toManagement hdr) (hl : params.length ≤ 62) (hlen : c.lengthIs (params.length + 2)) (hp : s.allowed c hdr)
    (hc : (c == .restart) = false)
    (hact : (s.heard (requestOperand hdr c tag params)).act c params = (s.heard (requestOperand hdr c tag params), r)) :
    s.answersOnly c hdr tag params r := by
  rw [State.answersOnly, State.request_acts hto c tag params hl hlen hp, hact, hc]

/-! ## READ (R169) -/

section
variable (s : State) (table first less : Byte)

theorem State.doRead_unknown (h : TableId.ofByte table = none) :
    s.doRead [table, first, less] = (s, ⟨.range, []⟩) := by
  have hid : TableId.ofByte (byteAt [table, first, less] 0) = none := h
  unfold State.doRead
  rw [hid]
  rfl

theorem State.doRead_known {id : TableId} (h : TableId.ofByte table = some id) : s.doRead [table, first, less] =
    if id.entries < first.toNat + (less.toNat + 1) then (s, ⟨.range, []⟩)
    else if 58 < (less.toNat + 1) * id.size then (s, ⟨.badLength, []⟩)
    else (s, ⟨.ok, [table, first, less] ++ s.tables.read id first.toNat (less.toNat + 1)⟩) := by
  have hid : TableId.ofByte (byteAt [table, first, less] 0) = some id := h
  unfold State.doRead
  rw [hid]
  rfl

end

/-! ## The STATUS records (R41, R104, R138, R14, R177) -/

section
variable (s : State)

theorem State.statusRecord_head {index : Byte} (k : Fin 32) (h : index.toNat = k.val) :
    s.statusRecord 0 index = some (s.headStatus k) := by
  have hk : (⟨index.toNat, h ▸ k.isLt⟩ : Fin 32) = k := Fin.ext h
  unfold State.statusRecord
  rw [if_pos rfl, dif_pos (h ▸ k.isLt), hk]

theorem State.statusRecord_channel {index : Byte} (c : Fin 8) (h : index.toNat = c.val) :
    s.statusRecord 1 index = some (s.channelStatus c) := by
  have hc : (⟨index.toNat, h ▸ c.isLt⟩ : Fin 8) = c := Fin.ext h
  unfold State.statusRecord
  rw [if_neg (by decide), if_pos rfl, dif_pos (h ▸ c.isLt), hc]

theorem State.statusRecord_section {index : Byte} (k : Fin 24) (h : index.toNat = k.val) :
    s.statusRecord 2 index = some (s.sectionStatus k) := by
  have hk : (⟨index.toNat, h ▸ k.isLt⟩ : Fin 24) = k := Fin.ext h
  unfold State.statusRecord
  rw [if_neg (by decide), if_neg (by decide), if_pos rfl, dif_pos (h ▸ k.isLt), hk]

theorem State.statusRecord_ports (index : Byte) : s.statusRecord 3 index = some s.portsStatus := rfl

theorem State.statusRecord_lines (index : Byte) : s.statusRecord 4 index = some s.linesStatus := rfl

/-- A subject above 4 has no record (R170). -/
theorem State.statusRecord_subject {subject : Byte} (h : 4 < subject.toNat) (index : Byte) :
    s.statusRecord subject index = none := by
  have hne (n : Byte) (hn : n.toNat ≤ 4) : subject ≠ n := fun he => by rw [he] at h; omega
  unfold State.statusRecord
  rw [if_neg (hne 0 (by decide)), if_neg (hne 1 (by decide)), if_neg (hne 2 (by decide)), if_neg (hne 3 (by decide)),
    if_neg (hne 4 (by decide))]

/-- An index beyond its subject's records has none (R170). -/
theorem State.statusRecord_index {subject index : Byte}
    (h : subject = 0 ∧ 31 < index.toNat ∨ subject = 1 ∧ 7 < index.toNat ∨ subject = 2 ∧ 23 < index.toNat) :
    s.statusRecord subject index = none := by
  unfold State.statusRecord
  rcases h with ⟨rfl, h⟩ | ⟨rfl, h⟩ | ⟨rfl, h⟩
  · rw [if_pos rfl, dif_neg (by omega)]
  · rw [if_neg (by decide), if_pos rfl, dif_neg (by omega)]
  · rw [if_neg (by decide), if_neg (by decide), if_pos rfl, dif_neg (by omega)]

theorem State.doStatus_none {subject index : Byte} (h : s.statusRecord subject index = none) :
    s.doStatus [subject, index] = (s, ⟨.range, []⟩) := by
  have hrec : s.statusRecord (byteAt [subject, index] 0) (byteAt [subject, index] 1) = none := h
  unfold State.doStatus
  rw [hrec]
  rfl

theorem State.doStatus_some {subject index : Byte} {r : List Byte} (h : s.statusRecord subject index = some r) :
    s.doStatus [subject, index] = (s, ⟨.ok, [subject, index] ++ r⟩) := by
  have hrec : s.statusRecord (byteAt [subject, index] 0) (byteAt [subject, index] 1) = some r := h
  unfold State.doStatus
  rw [hrec]
  rfl

end

/-! ## Flags bytes: the bits stand apart, so they may be added -/

theorem presenceFlags_eq (h : HeadRun) (o : RelayOut) :
    presenceFlags h o = flagBit 0 h.expected.isSome + flagBit 1 h.anchor.isSome + flagBit 2 o.broken := by
  unfold presenceFlags
  generalize h.expected.isSome = a, h.anchor.isSome = b, o.broken = c
  revert a b c
  decide

theorem SecRun.statusFlags_eq (r : SecRun) (owed : Bool) : r.statusFlags owed =
    flagBit 0 r.swept + flagBit 1 r.repeated + flagBit 2 r.activity + flagBit 3 r.warning + flagBit 4 owed := by
  unfold SecRun.statusFlags
  generalize r.swept = a, r.repeated = b, r.activity = c, r.warning = d
  revert a b c d owed
  decide

/-- The level a STATUS read gives: an output's latch, else the board's level after polarity (R177). -/
theorem State.lineLevel_eq (s : State) (l : Fin 8) : s.lineLevel l =
    match s.tables.lines[l].function with
    | .sectionOut | .alarmOut => s.lines[l].latch
    | .off | .restoreIn | .inhibitIn => (s.lines[l].board == .low) == (s.tables.lines[l].polarity == .normal) := by
  unfold State.lineLevel
  cases hf : s.tables.lines[l].function with
  | sectionOut | alarmOut => rfl
  | off | restoreIn | inhibitIn =>
    have hout : s.tables.lines[l].function.output = false := by rw [hf]; rfl
    exact State.sensed_undriven hout

/-! ## What a received frame leaves of the STATUS records -/

section
variable (s : State) (f : Frame)

theorem State.heard_headStatus (k : Fin 32) : (s.heard f).headStatus k = s.headStatus k := by
  simp only [State.headStatus, State.heard_heads, State.heard_relayOut]

theorem State.heard_channelStatus (c : Fin 8) : (s.heard f).channelStatus c = s.channelStatus c := by
  simp only [State.channelStatus, State.heard_channels]

theorem State.heard_sectionStatus (k : Fin 24) : (s.heard f).sectionStatus k = s.sectionStatus k := by
  simp only [State.sectionStatus, State.heard_sections, State.heard_notice]

theorem State.heard_linesStatus : (s.heard f).linesStatus = s.linesStatus := by
  have hlevel (l : Fin 8) : (s.heard f).lineLevel l = s.lineLevel l := by
    rw [State.lineLevel_eq, State.lineLevel_eq, State.heard_tables, State.heard_lines]
  simp only [State.linesStatus, State.heard_tables, hlevel]

end

/-- A part that has heard a request has its link UP and is addressed (R8, R14). -/
theorem State.heard_portsStatus {s : State} {f : Frame} {own : Byte} (h : s.pins.ownStation = some own) :
    (s.heard f).portsStatus = [s.mode.code, 1, 0] ++ bytes16 s.tallies.fieldDamaged ++ bytes16 s.tallies.lineDamaged ++
      bytes16 s.tallies.misrouted ++ bytes16 s.tallies.unknown ++ bytes16 s.tallies.forwardDropped ++
      bytes16 s.tallies.droppedRequest ++ [BitVec.ofNat 8 s.linePort.answers.length,
        BitVec.ofNat 8 s.linePort.forward.length, BitVec.ofNat 8 s.fieldPort.orders.length] ++ bytes32 s.partTime := by
  have hlink : (s.heard f).linePort.link = .up := rfl
  simp only [State.portsStatus, State.heard_mode, State.heard_pins, State.heard_tallies, State.heard_answers,
    State.heard_forward, State.heard_fieldPort, State.heard_partTime, hlink, h, Option.isSome_some, if_true, Link.code]

/-- Table ids outside 1 to 7 name no table (1.4). -/
theorem TableId.ofByte_none {b : Byte} (h : b = 0 ∨ 7 < b.toNat) : TableId.ofByte b = none := by
  have hne (n : Byte) (hn : 1 ≤ n.toNat ∧ n.toNat ≤ 7) : b ≠ n := by
    rintro rfl
    rcases h with rfl | h
    · exact absurd hn.1 (by decide)
    · omega
  unfold TableId.ofByte
  rw [if_neg (hne 1 (by decide)), if_neg (hne 2 (by decide)), if_neg (hne 3 (by decide)), if_neg (hne 4 (by decide)),
    if_neg (hne 5 (by decide)), if_neg (hne 6 (by decide)), if_neg (hne 7 (by decide))]

/-- Settles O55: the codes by evaluation, READ and STATUS by their replies. -/
theorem readsChangeNothing : Obligations.ReadsChangeNothing := by
  unfold Obligations.ReadsChangeNothing
  refine ⟨⟨rfl, rfl, rfl, rfl, rfl, rfl, rfl, rfl, rfl, rfl, rfl, rfl, rfl, rfl, fun _ h => TableId.ofByte_none h, rfl, rfl⟩,
    fun s hdr tag hto => ⟨fun table first less => ?_, fun subject index => ?_⟩⟩
  · intro reply count
    have hread {r : Reply} (hact : (s.heard (requestOperand hdr .read tag [table, first, less])).doRead [table, first, less] =
        (s.heard (requestOperand hdr .read tag [table, first, less]), r)) : reply r :=
      State.answersOnly_of_act hto (show 3 ≤ 62 by decide) rfl trivial rfl hact
    refine ⟨fun hno => hread (State.doRead_unknown _ table first less hno), fun id hid => ?_⟩
    have hknown := State.doRead_known (s.heard (requestOperand hdr .read tag [table, first, less])) table first less hid
    refine ⟨fun hrange => hread (hknown.trans (if_pos hrange)), fun hfits hlong => hread (hknown.trans ?_),
      fun hfits hshort => hread (hknown.trans ?_)⟩
    · rw [if_neg (not_lt.mpr hfits)]
      exact if_pos hlong
    · rw [if_neg (not_lt.mpr hfits)]
      exact if_neg (not_lt.mpr hshort)
  · intro reply
    have hnone (h : (s.heard (requestOperand hdr .status tag [subject, index])).statusRecord subject index = none) :
        reply ⟨.range, []⟩ :=
      State.answersOnly_of_act hto (show 2 ≤ 62 by decide) rfl trivial rfl (State.doStatus_none _ h)
    have hsome {r : List Byte}
        (h : (s.heard (requestOperand hdr .status tag [subject, index])).statusRecord subject index = some r) :
        reply ⟨.ok, [subject, index] ++ r⟩ :=
      State.answersOnly_of_act hto (show 2 ≤ 62 by decide) rfl trivial rfl (State.doStatus_some _ h)
    refine ⟨fun hsubject => hnone (State.statusRecord_subject _ hsubject _),
      fun hindex => hnone (State.statusRecord_index _ hindex), ?_⟩
    intro bit
    refine ⟨fun k hsubject hk => ?_, fun c hsubject hc => ?_, fun k hsubject hk => ?_, fun hsubject => ?_,
      fun hsubject => ?_⟩ <;> subst hsubject
    · have hrec := hsome (State.statusRecord_head _ k hk)
      rw [State.heard_headStatus, State.headStatus, codeOr0_eq, presenceFlags_eq] at hrec
      exact hrec
    · have hrec := hsome (State.statusRecord_channel _ c hc)
      rw [State.heard_channelStatus, State.channelStatus, codeOr0_eq] at hrec
      exact hrec
    · have hrec := hsome (State.statusRecord_section _ k hk)
      rw [State.heard_sectionStatus, State.sectionStatus, codeOr0_eq, codeOr0_eq, sourceCode_eq, SecRun.statusFlags_eq] at hrec
      exact hrec
    · have hrec := hsome (State.statusRecord_ports _ index)
      rw [State.heard_portsStatus hto.1.2] at hrec
      exact hrec
    · have hrec := hsome (State.statusRecord_lines _ index)
      rw [State.heard_linesStatus, State.linesStatus] at hrec
      simp only [State.lineLevel_eq] at hrec
      exact hrec

end Sys2Proof.Machine
end

section
/-! SUPPORT. What each operation on the track makes of the records of heads, relay-out and channels, said once. -/

namespace Sys2Proof.Machine

/-- Of two writes to one record the later stands. -/
theorem upd_upd {α : Type} {n : Nat} (v : Vector α n) (i : Fin n) (x y : α) : upd (upd v i x) i y = upd v i y := by
  refine table_ext _ _ fun j => ?_
  rw [upd_get, upd_get, upd_get]
  split <;> rfl

section
variable (s : State)

/-! ## The relay unit's part in a change (R123, R124) -/

@[simp] theorem State.noteStatus_heads (k : Fin 32) (b : OriginStatus) : (s.noteStatus k b).heads = s.heads := by
  unfold State.noteStatus
  split <;> rfl

@[simp] theorem State.noteStatus_channels (k : Fin 32) (b : OriginStatus) : (s.noteStatus k b).channels = s.channels := by
  unfold State.noteStatus
  split <;> rfl

@[simp] theorem State.relayPassage_heads (k : Fin 32) (p : Passage) : (s.relayPassage k p).heads = s.heads := by
  unfold State.relayPassage
  split
  · rw [State.noteStatus_heads]
    rfl
  · rfl

@[simp] theorem State.relayPassage_channels (k : Fin 32) (p : Passage) : (s.relayPassage k p).channels = s.channels := by
  unfold State.relayPassage
  split
  · rw [State.noteStatus_channels]
    rfl
  · rfl

@[simp] theorem State.deliverPassage_heads (p : Option PassageRecord) : (s.deliverPassage p).heads = s.heads := by
  cases p with
  | none => rfl
  | some p => rw [State.deliverPassage_some, State.relayPassage_heads, State.passage_heads]

@[simp] theorem State.deliverPassage_channels (p : Option PassageRecord) : (s.deliverPassage p).channels = s.channels := by
  cases p with
  | none => rfl
  | some p => rw [State.deliverPassage_some, State.relayPassage_channels, State.passage_channels]

/-! ## A change of a head's record (R40) -/

/-- A change of a head's record reaches the track as the record, the relay unit's note, and events at sections. -/
theorem State.commitHead_track (k : Fin 32) (h : HeadRun) :
    (s.commitHead k h).butSections = ((s.setHead k h).noteStatus k (s.statusOf k)).butSections := by
  unfold State.commitHead
  dsimp only
  rw [State.deliverOpt_butSections]
  split
  · rw [State.deliver_butSections]
  · rfl

@[simp] theorem State.commitHead_heads (k : Fin 32) (h : HeadRun) : (s.commitHead k h).heads = upd s.heads k h := by
  rw [State.heads_of_butSections (s.commitHead_track k h), State.noteStatus_heads]
  rfl

@[simp] theorem State.commitHead_channels (k : Fin 32) (h : HeadRun) : (s.commitHead k h).channels = s.channels := by
  rw [State.channels_of_butSections (s.commitHead_track k h), State.noteStatus_channels]
  rfl

/-- The edges of a frame move no head's record but the slot's, which ends as some chain of transitions and at most one
fault leaves it: `P` holds of the record between edges, `Q` at the end. -/
theorem State.edges_heads {P Q : HeadRun → Prop} {k : Fin 32} (hstands : ∀ h, P h → Q h)
    (hfails : ∀ h why, P h → Q (h.enterFaulty why))
    (htaken : ∀ h c sensor on t r p, P h → h.recog.take k c sensor on t = .taken r p → P (h.edgeTaken r t))
    (a : Anchor) (es : List EdgeOperand) : ∀ (s : State) (before : Option (Time × Half)), P s.heads[k] →
      ∃ h, Q h ∧ (s.edges k a before es).heads = upd s.heads k h := by
  induction es with
  | nil => exact fun s _ hP => ⟨s.heads[k], hstands _ hP, (upd_same ..).symm⟩
  | cons e es ih =>
    intro s before hP
    have hheads : (s.activity (headSource k)).heads = s.heads := State.activity_heads ..
    unfold State.edges
    dsimp only
    split
    · rw [State.commitHead_heads, hheads]
      exact ⟨_, hfails _ _ hP, rfl⟩
    · next r p heffect =>
      have htake : s.heads[k].recog.take k (s.activity (headSource k)).tables.heads[k] (sensorOf e) (edgeIsOn e)
          (edgeTime a s.partTime before e.stamp) = .taken r p := by
        unfold State.edgeEffect at heffect
        rw [hheads] at heffect
        split at heffect
        · cases heffect
        · exact heffect
      have hnext := htaken _ _ _ _ _ _ _ hP htake
      obtain ⟨h, hQ, hh⟩ := ih ((((s.activity (headSource k)).setHead k
        ((s.activity (headSource k)).heads[k].edgeTaken r (edgeTime a s.partTime before e.stamp))).deliverPassage p))
        (some (edgeTime a s.partTime before e.stamp, e.stamp))
        (by rw [State.deliverPassage_heads, State.setHead_heads, upd_get_self, hheads]; exact hnext)
      refine ⟨h, hQ, ?_⟩
      rw [hh, State.deliverPassage_heads, State.setHead_heads, upd_upd, hheads]

theorem State.edges_channels (k : Fin 32) (a : Anchor) (before : Option (Time × Half)) (es : List EdgeOperand) :
    (s.edges k a before es).channels = s.channels := by
  induction es generalizing s before with
  | nil => rfl
  | cons e es ih =>
    unfold State.edges
    dsimp only
    split
    · rw [State.commitHead_channels, State.activity_channels]
    · rw [ih, State.deliverPassage_channels, State.setHead_channels, State.activity_channels]

/-! ## Readmission (R39, R136) -/

@[simp] theorem State.readmitHead_heads (k : Fin 32) : (s.readmitHead k).heads = upd s.heads k s.heads[k].enterAwaiting := by
  rw [State.readmitHead, State.deliver_heads, State.noteStatus_heads]
  rfl

@[simp] theorem State.readmitHead_channels (k : Fin 32) : (s.readmitHead k).channels = s.channels := by
  rw [State.readmitHead, State.deliver_channels, State.noteStatus_channels]
  rfl

@[simp] theorem State.readmitChannel_heads (c : Fin 8) : (s.readmitChannel c).heads = s.heads := State.deliver_heads ..

@[simp] theorem State.readmitChannel_channels (c : Fin 8) :
    (s.readmitChannel c).channels = upd s.channels c s.channels[c].enterAwaiting := State.deliver_channels ..

/-! ## A change of a channel's record (R137) -/

@[simp] theorem State.commitChannel_heads (c : Fin 8) (r : Channel) : (s.commitChannel c r).heads = s.heads :=
  State.deliverOpt_heads ..

@[simp] theorem State.commitChannel_channels (c : Fin 8) (r : Channel) :
    (s.commitChannel c r).channels = upd s.channels c r := State.deliverOpt_channels ..

end

end Sys2Proof.Machine
end

section
/-! SUPPORT. The records of heads and channels stay sound (R20, R43, R130): what each change of a record keeps, then
the events of a step. -/

namespace Sys2Proof.Machine

/-! ## The recognition record (R43, R44) -/

theorem Recog.clear_sound (r : Recog) : r.clear.sound := by simp [Recog.sound, Recog.clear]

theorem Recog.raise_sound {r : Recog} (h : r.sound) (t : Time) : (r.raise t).sound := by
  simpa [Recog.sound, Recog.raise] using h

/-- A check of a lead time lets a transition through or makes it a fault. -/
theorem measured_taken {c : HeadRec} {note : Option Time} {t : Time} {f : Nat → EdgeEffect} {r : Recog}
    {p : Option PassageRecord} (h : measured c note t f = .taken r p) : ∃ lead, f lead = .taken r p := by
  unfold measured at h
  split at h
  · cases h
  · split at h
    · cases h
    · exact ⟨_, h⟩

/-- A wheel coming onto its entry sensor has an on-note and no off-note (R51, R54). -/
theorem Recog.enters_sound {r r' : Recog} {st : RecogState} {t : Time} {p : Option PassageRecord}
    (hst : st = .aFromA ∨ st = .bFromB ∨ st = .bothFromA ∨ st = .bothFromB) (he : r.enters st t = .taken r' p) : r'.sound := by
  cases he
  rcases hst with rfl | rfl | rfl | rfl <;> simp [Recog.sound]

/-- A wheel that frees its entry sensor has an off-note and no on-note (R53). -/
theorem Recog.advances_sound {r r' : Recog} {st : RecogState} {t : Time} {p : Option PassageRecord}
    (hst : st = .bFromA ∨ st = .aFromB) (he : r.advances st t = .taken r' p) : r'.sound := by
  cases he
  rcases hst with rfl | rfl <;> simp [Recog.sound]

/-- A wheel that goes on from its entry sensor onto both keeps its on-note (R52). -/
theorem Recog.covers_sound {r r' : Recog} (h : r.sound) (hr : r.state = .aFromA ∨ r.state = .bFromB) {c : HeadRec} {t : Time}
    {st : RecogState} {p : Option PassageRecord} (hst : st = .bothFromA ∨ st = .bothFromB)
    (he : r.covers c t st = .taken r' p) : r'.sound := by
  obtain ⟨lead, hgoes⟩ := measured_taken he
  cases hgoes
  obtain ⟨hon, hoff⟩ := h
  rcases hr with hr | hr <;> rcases hst with rfl | rfl <;> simp_all [Recog.sound]

/-- A wheel that moves back keeps its on-note from both sensors, and has none off the pair (R52, R53, R55). -/
theorem Recog.rocksBack_sound {r r' : Recog} (h : r.sound)
    (hr : r.state = .aFromA ∨ r.state = .bFromB ∨ r.state = .bothFromA ∨ r.state = .bothFromB) {st : RecogState}
    {p : Option PassageRecord} (hst : st = .vacant ∨ st = .aFromA ∨ st = .bFromB) (he : r.rocksBack st = .taken r' p) :
    r'.sound := by
  cases he
  obtain ⟨hon, hoff⟩ := h
  rcases hr with hr | hr | hr | hr <;> rcases hst with rfl | rfl | rfl <;> simp_all [Recog.sound]

/-- A wheel that leaves the pair leaves no note (R54). -/
theorem Recog.completes_sound {r r' : Recog} (h : r.sound) (hr : r.state = .bFromA ∨ r.state = .aFromB) {k : Fin 32}
    {c : HeadRec} {t : Time} {b : Bool} {p : Option PassageRecord} (he : r.completes k c t b = .taken r' p) : r'.sound := by
  obtain ⟨lead, hdone⟩ := measured_taken he
  cases hdone
  obtain ⟨hon, hoff⟩ := h
  rcases hr with hr | hr <;> simp_all [Recog.sound]

/-- Every transition keeps the notes present as the state gives (R43, R50 to R54). -/
theorem Recog.take_sound {r r' : Recog} (h : r.sound) {k : Fin 32} {c : HeadRec} {sensor : Sensor} {on : Bool} {t : Time}
    {p : Option PassageRecord} (he : r.take k c sensor on t = .taken r' p) : r'.sound := by
  unfold Recog.take at he
  split at he
  case h_1 | h_2 | h_12 | h_14 => exact Recog.enters_sound (by decide) he
  case h_3 | h_5 => exact Recog.covers_sound h (by simp [*]) (by decide) he
  case h_4 | h_6 | h_8 | h_10 => exact Recog.rocksBack_sound h (by simp [*]) (by decide) he
  case h_7 | h_9 => exact Recog.advances_sound (by decide) he
  case h_11 | h_13 => exact Recog.completes_sound h (by simp [*]) he
  all_goals cases he

/-! ## Which branch a frame takes (R23, R26) -/

theorem SourceState.not_chained_iff (st : SourceState) :
    ¬st.chained ↔ st = .off ∨ st = .awaiting ∨ st = .faulty ∨ st = .inTest := by
  cases st <;> simp [SourceState.chained]

section
variable {h : HeadRun} {f : LifeFields} {now : Time} {t : Timer}

theorem HeadRun.life_repeated (hc : h.state.chained) (hj : judgeSeq h.expected f.seq = .repeated) :
    h.life f now t = h.repeated := by
  unfold HeadRun.life
  rcases hc with hc | hc | hc <;> rw [hc, hj]

theorem HeadRun.life_gap (hc : h.state.chained) (hj : judgeSeq h.expected f.seq = .gap) :
    h.life f now t = h.enterFaulty .seqGap := by
  unfold HeadRun.life
  rcases hc with hc | hc | hc <;> rw [hc, hj]

theorem HeadRun.life_sequence (hc : h.state.chained) (hj : judgeSeq h.expected f.seq = .next) :
    h.life f now t = (h.accept f.seq t).lifeChecks f now := by
  unfold HeadRun.life
  rcases hc with hc | hc | hc <;> rw [hc, hj]

theorem HeadRun.life_deaf (hs : h.state = .off ∨ h.state = .faulty) : h.life f now t = h := by
  unfold HeadRun.life
  rcases hs with hs | hs <;> rw [hs]

end

section
variable {s : State} {k : Fin 32} {q flags : Byte} {es : List EdgeOperand}

theorem State.wheelFrame_repeated (hc : s.heads[k].state.chained) (hj : judgeSeq s.heads[k].expected q = .repeated) :
    s.wheelFrame k q flags es = s.commitHead k s.heads[k].repeated := by
  unfold State.wheelFrame
  rcases hc with hc | hc | hc <;> rw [hc, hj]

theorem State.wheelFrame_gap (hc : s.heads[k].state.chained) (hj : judgeSeq s.heads[k].expected q = .gap) :
    s.wheelFrame k q flags es = s.commitHead k (s.heads[k].enterFaulty .seqGap) := by
  unfold State.wheelFrame
  rcases hc with hc | hc | hc <;> rw [hc, hj]

theorem State.wheelFrame_sequence (hc : s.heads[k].state.chained) (hj : judgeSeq s.heads[k].expected q = .next) :
    s.wheelFrame k q flags es = s.wheelAccepted k q flags es := by
  unfold State.wheelFrame
  rcases hc with hc | hc | hc <;> rw [hc, hj]

theorem State.wheelFrame_deaf (hc : ¬s.heads[k].state.chained) : s.wheelFrame k q flags es = s := by
  rw [SourceState.not_chained_iff] at hc
  unfold State.wheelFrame
  rcases hc with hc | hc | hc | hc <;> rw [hc]

end

/-! ## Which expiry acts (R33, R136) -/

/-- The record of slot `k` after a supervision expiry (R33, R34). -/
def State.expiredHead (s : State) (k : Fin 32) : HeadRun :=
  { s.heads[k] with
      missed := missInc s.heads[k].missed, timer := s.headTimer k
      state := lateOrLost s.heads[k].state (missInc s.heads[k].missed).val s.tables.heads[k].grace.val }

/-- The record of channel `c` after a supervision expiry (R136). -/
def State.expiredChannel (s : State) (c : Fin 8) : Channel :=
  { s.channels[c] with
      missed := missInc s.channels[c].missed, timer := s.timerAfter (ticks10ms s.tables.relays[c].period)
      state := lateOrLost s.channels[c].state (missInc s.channels[c].missed).val s.tables.relays[c].grace.val }

section
variable {s : State} {k : Fin 32} {c : Fin 8}

theorem State.headExpiry_due (hk : s.heads[k].state.chained) (hdue : s.heads[k].timer.due s.partTime = true) :
    s.headExpiry k = s.commitHead k (s.expiredHead k) := by
  unfold State.headExpiry State.expiredHead
  rcases hk with hk | hk | hk <;> simp only [hk, hdue, if_true]

theorem State.headExpiry_idle (hk : ¬(s.heads[k].state.chained ∧ s.heads[k].timer.due s.partTime = true)) :
    s.headExpiry k = s := by
  unfold State.headExpiry
  dsimp only
  split
  case h_1 hst | h_2 hst | h_3 hst => exact if_neg fun hdue => hk ⟨by rw [hst]; simp [SourceState.chained], hdue⟩
  all_goals rfl

theorem State.channelExpiry_due (hc : s.channels[c].state.chained) (hdue : s.channels[c].timer.due s.partTime = true) :
    s.channelExpiry c = s.commitChannel c (s.expiredChannel c) := by
  unfold State.channelExpiry State.expiredChannel
  rcases hc with hc | hc | hc <;> simp only [hc, hdue, if_true]

theorem State.channelExpiry_idle (hc : ¬(s.channels[c].state.chained ∧ s.channels[c].timer.due s.partTime = true)) :
    s.channelExpiry c = s := by
  unfold State.channelExpiry
  dsimp only
  split
  case h_1 hst | h_2 hst | h_3 hst => exact if_neg fun hdue => hc ⟨by rw [hst]; simp [SourceState.chained], hdue⟩
  all_goals rfl

end

/-- A supervision expiry leaves a source in LATE or LOST (R33, R136). -/
theorem lateOrLost_chained (old : SourceState) (n g : Nat) : (lateOrLost old n g).chained := by
  unfold lateOrLost
  split_ifs
  · exact .inr (.inr rfl)
  · exact .inr (.inl rfl)
  · exact .inr (.inr rfl)

/-! ## The record of a head slot (R20, R33) -/

/-- The record of a head in NORMAL, LATE or LOST: a sequence chain, a running timer and an anchor, no fault (R20, R33). -/
theorem HeadRun.sound_of_chained {h : HeadRun} (hs : h.state.chained) (hq : h.expected.isSome = true)
    (ht : h.timer.isSome = true) (hf : h.fault = none) (ha : h.anchor.isSome = true) (hr : h.recog.sound) : h.sound := by
  refine ⟨iff_of_true hq hs, iff_of_true ht hs, ?_, fun _ => ha, ?_, hr, fun hno => absurd hs hno⟩
  · rw [hf]
    rcases hs with hs | hs | hs <;> simp [hs]
  · rcases hs with hs | hs | hs <;> simp [hs]

/-- The record of a head out of the chain: no sequence, no timer, the recognition reset (R20, R44). -/
theorem HeadRun.sound_of_still {h : HeadRun} {r : Recog} (hs : ¬h.state.chained) (hq : h.expected = none)
    (ht : h.timer = none) (hf : h.fault.isSome = true ↔ h.state = .faulty)
    (ha : h.state = .off ∨ h.state = .awaiting → h.anchor = none) (hr : h.recog = r.clear) : h.sound := by
  refine ⟨?_, ?_, hf, fun hc => absurd hc hs, ha, ?_, fun _ => ?_⟩
  · simpa [hq] using hs
  · simpa [ht] using hs
  · rw [hr]
    exact r.clear_sound
  · rw [hr]
    exact ⟨rfl, rfl⟩

theorem HeadRun.reset_sound : HeadRun.reset.sound :=
  HeadRun.sound_of_still (r := .reset) (by simp [HeadRun.reset, SourceState.chained]) rfl rfl (by simp [HeadRun.reset])
    (fun _ => rfl) rfl

theorem HeadRun.enterFaulty_sound (h : HeadRun) (why : FaultCause) : (h.enterFaulty why).sound :=
  HeadRun.sound_of_still (r := h.recog) (by simp [HeadRun.enterFaulty, SourceState.chained]) rfl rfl
    (by simp [HeadRun.enterFaulty]) (by simp [HeadRun.enterFaulty]) rfl

theorem HeadRun.enterTest_sound {h : HeadRun} (hf : h.fault = none) : h.enterTest.sound :=
  HeadRun.sound_of_still (r := h.recog) (by simp [HeadRun.enterTest, SourceState.chained]) rfl rfl
    (by simp [HeadRun.enterTest, hf]) (by simp [HeadRun.enterTest]) rfl

theorem HeadRun.enterAwaiting_sound (h : HeadRun) : h.enterAwaiting.sound :=
  HeadRun.sound_of_still (r := h.recog) (by simp [HeadRun.enterAwaiting, SourceState.chained]) rfl rfl
    (by simp [HeadRun.enterAwaiting]) (fun _ => rfl) rfl

theorem HeadRun.enterOff_sound (h : HeadRun) : h.enterOff.sound :=
  HeadRun.sound_of_still (r := h.recog) (by simp [HeadRun.enterOff, SourceState.chained]) rfl rfl
    (by simp [HeadRun.enterOff, HeadRun.enterAwaiting]) (fun _ => rfl) rfl

theorem HeadRun.adopt_sound (h : HeadRun) (f : LifeFields) (now : Time) {t : Timer} (ht : t.isSome = true) :
    (h.adopt f now t).sound :=
  HeadRun.sound_of_chained (.inl rfl) rfl ht rfl rfl h.recog.clear_sound

namespace HeadRun.sound

variable {h : HeadRun} (hs : h.sound)
include hs

theorem fault_none (hne : h.state ≠ .faulty) : h.fault = none := by
  obtain ⟨-, -, hf, -⟩ := hs
  rw [← Option.not_isSome_iff_eq_none, hf]
  exact hne

theorem fault_none_of_chained (hc : h.state.chained) : h.fault = none :=
  hs.fault_none (by rcases hc with hc | hc | hc <;> simp [hc])

theorem anchor_isSome (hc : h.state.chained) : h.anchor.isSome = true := by
  obtain ⟨-, -, -, ha, -⟩ := hs
  exact ha hc

theorem recog : h.recog.sound := by
  obtain ⟨-, -, -, -, -, hr, -⟩ := hs
  exact hr

/-- A frame in sequence leaves a sound record in NORMAL (R26). -/
theorem accept (hc : h.state.chained) (q : Byte) {t : Timer} (ht : t.isSome = true) : (h.accept q t).sound :=
  HeadRun.sound_of_chained (.inl rfl) rfl ht (hs.fault_none_of_chained hc) (hs.anchor_isSome hc) hs.recog

/-- The attempt of a LIFE in AWAITING or IN_TEST (R24, R25, R38). -/
theorem attempt (hne : h.state ≠ .faulty) (f : LifeFields) (now : Time) {t : Timer} (ht : t.isSome = true) :
    (h.attempt f now t).sound := by
  unfold HeadRun.attempt
  split
  · exact h.adopt_sound f now ht
  · split
    · exact HeadRun.enterTest_sound (hs.fault_none hne)
    · exact hs

/-- The anchor moves with a LIFE that passes, and held times are raised (R30, R31, R49). -/
theorem moveAnchor (hc : h.state.chained) (stamp : Half) (now : Time) : (h.moveAnchor stamp now).sound := by
  obtain ⟨hq, ht, -⟩ := id hs
  exact HeadRun.sound_of_chained hc (hq.mpr hc) (ht.mpr hc) (hs.fault_none_of_chained hc) rfl (Recog.raise_sound hs.recog _)

/-- The checks of a LIFE in sequence (R28). -/
theorem lifeChecks (hc : h.state.chained) (f : LifeFields) (now : Time) : (h.lifeChecks f now).sound := by
  have hg : (h.withHealth f).sound := hs
  unfold HeadRun.lifeChecks
  dsimp only
  split
  · exact HeadRun.enterFaulty_sound ..
  · split
    · exact HeadRun.enterFaulty_sound ..
    · split
      · exact HeadRun.enterFaulty_sound ..
      · split
        · exact HeadRun.enterTest_sound (hs.fault_none_of_chained hc)
        · exact hg.moveAnchor hc _ _

/-- A LIFE leaves a sound record (R23 to R31, R38). -/
theorem life (f : LifeFields) (now : Time) {t : Timer} (ht : t.isSome = true) : (h.life f now t).sound := by
  have hchained (hc : h.state.chained) : (h.life f now t).sound := by
    cases hj : judgeSeq h.expected f.seq with
    | repeated => rw [HeadRun.life_repeated hc hj]; exact hs
    | gap => rw [HeadRun.life_gap hc hj]; exact h.enterFaulty_sound _
    | next => rw [HeadRun.life_sequence hc hj]; exact (hs.accept hc f.seq ht).lifeChecks (.inl rfl) f now
  cases hst : h.state with
  | awaiting => rw [HeadRun.life_waiting (.inl hst)]; exact hs.attempt (by rw [hst]; decide) f now ht
  | inTest => rw [HeadRun.life_waiting (.inr hst)]; exact hs.attempt (by rw [hst]; decide) f now ht
  | normal => exact hchained (.inl hst)
  | late => exact hchained (.inr (.inl hst))
  | lost => exact hchained (.inr (.inr hst))
  | off => rw [HeadRun.life_deaf (.inl hst)]; exact hs
  | faulty => rw [HeadRun.life_deaf (.inr hst)]; exact hs

/-- An admitted edge leaves a sound record (R45). -/
theorem edgeTaken (hc : h.state.chained) {r : Recog} (hr : r.sound) (t : Time) : (h.edgeTaken r t).sound := by
  obtain ⟨hq, ht, -⟩ := id hs
  exact HeadRun.sound_of_chained hc (hq.mpr hc) (ht.mpr hc) (hs.fault_none_of_chained hc) (hs.anchor_isSome hc) hr

/-- A supervision expiry leaves a sound record in LATE or LOST (R33). -/
theorem expired (hc : h.state.chained) (m : Fin 5) (n g : Nat) {t : Timer} (ht : t.isSome = true) :
    ({ h with missed := m, timer := t, state := lateOrLost h.state n g } : HeadRun).sound := by
  obtain ⟨hq, -⟩ := id hs
  exact HeadRun.sound_of_chained (lateOrLost_chained ..) (hq.mpr hc) ht (hs.fault_none_of_chained hc) (hs.anchor_isSome hc) hs.recog

end HeadRun.sound

/-! ## The record of a channel (R130) -/

theorem Channel.sound_of_chained {c : Channel} (hs : c.state.chained) (hq : c.expected.isSome = true)
    (ht : c.timer.isSome = true) (hf : c.fault = none) : c.sound := by
  refine ⟨iff_of_true hq hs, iff_of_true ht hs, ?_, ?_⟩
  · rw [hf]
    rcases hs with hs | hs | hs <;> simp [hs]
  · rcases hs with hs | hs | hs <;> simp [hs]

theorem Channel.reset_sound : Channel.reset.sound := by simp [Channel.reset, Channel.sound, SourceState.chained]

theorem Channel.enterAwaiting_sound (c : Channel) : c.enterAwaiting.sound := by
  simp [Channel.enterAwaiting, Channel.sound, SourceState.chained]

theorem Channel.enterFaulty_sound (c : Channel) (why : FaultCause) : (c.enterFaulty why).sound := by
  simp [Channel.enterFaulty, Channel.sound, SourceState.chained]

theorem Channel.enterConfig_sound (c : Channel) : c.enterConfig.sound := by
  simp [Channel.enterConfig, Channel.enterAwaiting, Channel.sound, SourceState.chained]

namespace Channel.sound

variable {c : Channel} (hs : c.sound)
include hs

theorem fault_none (hne : c.state ≠ .faulty) : c.fault = none := by
  obtain ⟨-, -, hf, -⟩ := hs
  rw [← Option.not_isSome_iff_eq_none, hf]
  exact hne

/-- A RELAY frame leaves a sound record (R131 to R134). -/
theorem frame (q : Byte) (st : OriginStatus) {t : Timer} (ht : t.isSome = true) : (c.frame q st t).sound := by
  unfold Channel.frame
  split
  case h_1 hst =>
    cases st with
    | normal => exact Channel.sound_of_chained (.inl rfl) rfl ht (hs.fault_none (by rw [hst]; decide))
    | awaiting | faulty => exact hs
  case h_2 hst | h_3 hst | h_4 hst =>
    split
    · exact hs
    · exact Channel.enterFaulty_sound ..
    · cases st with
      | normal => exact Channel.sound_of_chained (.inl rfl) rfl ht (hs.fault_none (by rw [hst]; decide))
      | awaiting => exact Channel.enterAwaiting_sound _
      | faulty => exact Channel.enterFaulty_sound ..
  all_goals exact hs

/-- A supervision expiry leaves a sound record in LATE or LOST (R136). -/
theorem expired (hc : c.state.chained) (m : Fin 5) (n g : Nat) {t : Timer} (ht : t.isSome = true) :
    ({ c with missed := m, timer := t, state := lateOrLost c.state n g } : Channel).sound := by
  obtain ⟨hq, -⟩ := id hs
  exact Channel.sound_of_chained (lateOrLost_chained ..) (hq.mpr hc) ht
    (hs.fault_none (by rcases hc with hc | hc | hc <;> simp [hc]))

end Channel.sound

/-! ## The records of the part, event by event -/

namespace State.SourcesSound

variable {s t : State} (h : s.SourcesSound)
include h

theorem congr (hh : t.heads = s.heads) (hc : t.channels = s.channels) : t.SourcesSound := by
  obtain ⟨hheads, hchannels⟩ := h
  exact ⟨by rw [hh]; exact hheads, by rw [hc]; exact hchannels⟩

/-- One head's record changes. -/
theorem ofHead {k : Fin 32} {r : HeadRun} (hr : r.sound) (hh : t.heads = upd s.heads k r)
    (hc : t.channels = s.channels) : t.SourcesSound := by
  obtain ⟨hheads, hchannels⟩ := h
  refine ⟨fun j => ?_, by rw [hc]; exact hchannels⟩
  rw [hh, upd_get]
  split
  · exact hr
  · exact hheads j

/-- One channel's record changes. -/
theorem ofChannel {c : Fin 8} {r : Channel} (hr : r.sound) (hh : t.heads = s.heads)
    (hc : t.channels = upd s.channels c r) : t.SourcesSound := by
  obtain ⟨hheads, hchannels⟩ := h
  refine ⟨by rw [hh]; exact hheads, fun d => ?_⟩
  rw [hc, upd_get]
  split
  · exact hr
  · exact hchannels d

theorem head (k : Fin 32) : s.heads[k].sound := h.1 k

theorem channel (c : Fin 8) : s.channels[c].sound := h.2 c

theorem commitHead (k : Fin 32) {r : HeadRun} (hr : r.sound) : (s.commitHead k r).SourcesSound :=
  h.ofHead hr (State.commitHead_heads ..) (State.commitHead_channels ..)

theorem commitChannel (c : Fin 8) {r : Channel} (hr : r.sound) : (s.commitChannel c r).SourcesSound :=
  h.ofChannel hr (State.commitChannel_heads ..) (State.commitChannel_channels ..)

/-- The edges of a frame at a head in the chain (R45 to R61). -/
theorem edges {k : Fin 32} (hk : s.heads[k].state.chained) (a : Anchor) (es : List EdgeOperand) :
    (s.edges k a none es).SourcesSound := by
  obtain ⟨r, hr, hheads⟩ := State.edges_heads (P := fun r => r.sound ∧ r.state.chained) (Q := HeadRun.sound) (k := k)
    (fun _ hr => hr.1) (fun r why _ => r.enterFaulty_sound why)
    (fun r _ _ _ t _ _ hr htake => ⟨hr.1.edgeTaken hr.2 (Recog.take_sound hr.1.recog htake) t, hr.2⟩) a es s none
    ⟨h.head k, hk⟩
  exact h.ofHead hr hheads (State.edges_channels ..)

theorem wheelAccepted {k : Fin 32} (hk : s.heads[k].state.chained) (q flags : Byte) (es : List EdgeOperand) :
    (s.wheelAccepted k q flags es).SourcesSound := by
  have haccepted : ((s.heads[k].accept q (s.headTimer k)).countEdges es).sound := (h.head k).accept hk q rfl
  unfold State.wheelAccepted
  dsimp only
  split
  · exact h.commitHead k (HeadRun.enterTest_sound (haccepted.fault_none_of_chained (.inl rfl)))
  · split
    · exact h.commitHead k (HeadRun.enterFaulty_sound ..)
    · split
      · exact h.commitHead k (HeadRun.enterFaulty_sound ..)
      · refine (h.commitHead k haccepted).edges ?_ _ es
        rw [State.commitHead_heads, upd_get_self]
        exact .inl rfl

theorem wheelFrame (k : Fin 32) (q flags : Byte) (es : List EdgeOperand) : (s.wheelFrame k q flags es).SourcesSound := by
  by_cases hk : s.heads[k].state.chained
  · cases hj : judgeSeq s.heads[k].expected q with
    | repeated =>
      rw [State.wheelFrame_repeated hk hj]
      exact h.commitHead k (h.head k)
    | gap =>
      rw [State.wheelFrame_gap hk hj]
      exact h.commitHead k (HeadRun.enterFaulty_sound ..)
    | next =>
      rw [State.wheelFrame_sequence hk hj]
      exact h.wheelAccepted hk q flags es
  · rw [State.wheelFrame_deaf hk]
    exact h

theorem lifeFrame (k : Fin 32) (f : LifeFields) : (s.lifeFrame k f).SourcesSound :=
  h.commitHead k ((h.head k).life f s.partTime rfl)

theorem headExpiry (k : Fin 32) : (s.headExpiry k).SourcesSound := by
  by_cases hk : s.heads[k].state.chained ∧ s.heads[k].timer.due s.partTime = true
  · rw [State.headExpiry_due hk.1 hk.2]
    exact h.commitHead k ((h.head k).expired hk.1 _ _ _ rfl)
  · rw [State.headExpiry_idle hk]
    exact h

theorem testHead (k : Fin 32) : (s.testHead k).SourcesSound := by
  unfold State.testHead
  split
  case h_1 hst | h_2 hst | h_3 hst | h_4 hst =>
    exact h.commitHead k (HeadRun.enterTest_sound ((h.head k).fault_none (by rw [hst]; decide)))
  all_goals exact h

theorem testHeads (f : Frame) : (s.testHeads f).SourcesSound := by
  unfold State.testHeads
  split
  · exact foldl_preserves State.SourcesSound _ _ (fun t k _ ht => ht.testHead k) s h
  · exact h

theorem channelFrame (c : Fin 8) (q : Byte) (st : OriginStatus) (ps : List PassageOperand) :
    (s.channelFrame c q st ps).SourcesSound := by
  have hcommit := h.commitChannel c ((h.channel c).frame q st (t := s.timerAfter (ticks10ms s.tables.relays[c].period)) rfl)
  unfold State.channelFrame
  dsimp only
  split
  · exact foldl_preserves State.SourcesSound _ _
      (fun t p _ ht => ht.congr (State.passage_heads ..) (State.passage_channels ..)) _ hcommit
  · exact hcommit

theorem channelExpiry (c : Fin 8) : (s.channelExpiry c).SourcesSound := by
  by_cases hc : s.channels[c].state.chained ∧ s.channels[c].timer.due s.partTime = true
  · rw [State.channelExpiry_due hc.1 hc.2]
    exact h.commitChannel c ((h.channel c).expired hc.1 _ _ _ rfl)
  · rw [State.channelExpiry_idle hc]
    exact h

theorem readmitBroken (n : Fin 40) : (s.readmitBroken n).SourcesSound := by
  unfold State.readmitBroken
  split
  case h_1 | h_2 =>
    split
    · exact h.ofHead (HeadRun.enterAwaiting_sound _) (State.readmitHead_heads ..) (State.readmitHead_channels ..)
    · exact h.ofChannel (Channel.enterAwaiting_sound _) (State.readmitChannel_heads ..) (State.readmitChannel_channels ..)
  all_goals exact h

theorem acceptRestore (kind : RestoreKind) (k : Fin 24) : (s.acceptRestore kind k).SourcesSound := by
  have hput : ((s.putSection k (s.sections[k].acceptRestore kind)).setRestoreTimer k (s.restoreTimer k)).SourcesSound :=
    h.congr (State.putSection_heads ..) (State.putSection_channels ..)
  have hfold := foldl_preserves State.SourcesSound _ (s.tables.boundarySources k) (fun t n _ ht => ht.readmitBroken n) _ hput
  exact hfold.congr (State.judgeRestore_heads ..) (State.judgeRestore_channels ..)

theorem localRestore (k : Fin 24) : (s.localRestore k).SourcesSound := by
  unfold State.localRestore
  split
  · exact h
  · exact h.acceptRestore _ _

/-! ### Frames and requests -/

theorem headOrder (f : Frame) : (s.headOrder f).SourcesSound :=
  State.headOrder_cases s f h (fun _ _ => h) fun _ => State.SourcesSound.testHeads (s := s.queueOrder f) h f

theorem relayIn (f : Frame) : (s.relayIn f).SourcesSound := by
  unfold State.relayIn
  split
  · exact h
  · split
    · exact h
    · exact h.channelFrame _ _ _ _

/-- RUN entry sets every used slot and channel to AWAITING (R22, R130). -/
theorem enterRun : s.enterRun.SourcesSound := by
  refine ⟨fun k => ?_, fun c => ?_⟩
  · rw [show s.enterRun.heads = (s.runEntry .start).heads from rfl, State.runEntry_heads]
    split
    · exact HeadRun.enterAwaiting_sound _
    · exact h.head k
  · rw [show s.enterRun.channels = (s.runEntry .start).channels from rfl, State.runEntry_channels]
    split
    · exact Channel.enterAwaiting_sound _
    · exact h.channel c

omit h in
/-- The change to CONFIG sets every slot and channel to OFF (R21, R130). -/
theorem enterConfig (s : State) : s.enterConfig.SourcesSound := by
  refine ⟨fun k => ?_, fun c => ?_⟩
  · rw [show s.enterConfig.heads = tab fun k => s.heads[k].enterOff from rfl, tab_get]
    exact HeadRun.enterOff_sound _
  · rw [show s.enterConfig.channels = tab fun c => s.channels[c].enterConfig from rfl, tab_get]
    exact Channel.enterConfig_sound _

theorem act (c : RequestCode) (p : List Byte) : (s.act c p).1.SourcesSound := by
  apply State.act_cases
  case kept => exact h
  case toConfig => exact fun _ => enterConfig s
  case toRun => exact fun _ _ => h.enterRun
  case written => intro id t _; cases id <;> exact h
  case readmitted => exact fun n _ => h.readmitBroken n
  case restart => exact h
  case hold => exact fun _ => h
  case watchSet => exact fun _ => h
  case captured => exact fun _ => h
  case restored => exact fun kind _ k _ => h.acceptRestore kind k
  case cancelled => exact fun _ k _ => h.congr (State.disturb_heads ..) (State.disturb_channels ..)

theorem request (f : Frame) : (s.request f).SourcesSound :=
  State.request_cases s f h (fun _ _ => h) fun c _ _ => h.act c _

theorem lineArrival (j : Judged) : (s.lineArrival j).SourcesSound := by
  refine State.lineArrival_cases s j h h fun f _ => ?_
  have hh : (s.heard f).SourcesSound := h
  generalize s.heard f = u at hh ⊢
  exact State.routeLine_cases _ f hh hh hh (hh.request f) (hh.relayIn f) (hh.headOrder f)

theorem fieldArrival (j : Judged) : (s.fieldArrival j).SourcesSound := by
  refine State.fieldArrival_cases s j h h fun f _ => ?_
  have hh : (s.fieldHeard f).SourcesSound := h
  generalize s.fieldHeard f = u at hh ⊢
  exact State.evaluate_cases _ f hh hh (fun k _ => hh.lifeFrame k _) (fun k _ => hh.wheelFrame k _ _ _)

/-! ### The transmitters, the timers and the pins -/

omit h in
/-- After a soft restart every slot and channel is OFF or AWAITING (R182). -/
theorem softRestart (s : State) : s.softRestart.SourcesSound := by
  refine ⟨fun k => ?_, fun c => ?_⟩
  · rw [State.softRestart_heads]
    split
    · exact HeadRun.enterAwaiting_sound _
    · exact HeadRun.reset_sound
  · rw [State.softRestart_channels]
    split
    · exact Channel.enterAwaiting_sound _
    · exact Channel.reset_sound

theorem afterSent (o : Outgoing) : (s.afterSent o).SourcesSound := by
  unfold State.afterSent
  split
  · exact softRestart s
  · exact h

/-- Taking a frame moves no record of a head or channel. -/
theorem takeReady {o : Outgoing} (ht : s.takeReady = some (o, t)) : t.SourcesSound := by
  rcases State.takeReady_cases ht with hc | hc | hc | hc | hc | hc
  · unfold State.takeAnswer at hc
    split at hc <;> cases hc
    exact h
  · unfold State.takeRelay at hc
    split at hc <;> cases hc
    exact h
  · unfold State.takeVerdict at hc
    split at hc
    · cases hc
    · split at hc <;> cases hc
      exact h
  · unfold State.takeRound at hc
    split at hc <;> cases hc
    exact h
  · unfold State.takeNotice at hc
    split at hc <;> cases hc
    exact h
  · unfold State.takeForward at hc
    split at hc <;> cases hc
    exact h

omit h in
theorem hardwareReset (s : State) (straps : Byte) (ratePin : PinLevel) : (s.hardwareReset straps ratePin).SourcesSound := by
  refine ⟨fun k => ?_, fun c => ?_⟩
  · rw [show (s.hardwareReset straps ratePin).heads = Vector.replicate 32 .reset from rfl, replicate_get]
    exact HeadRun.reset_sound
  · rw [show (s.hardwareReset straps ratePin).channels = Vector.replicate 8 .reset from rfl, replicate_get]
    exact Channel.reset_sound

theorem event (ht : Event s t) : t.SourcesSound := by
  cases ht with
  | idle | tick | resetLow | orderSent => exact h
  | hardwareReset a b => exact hardwareReset s a b
  | levelChange l v =>
    unfold State.levelChange
    dsimp only
    split <;> exact h
  | fieldArrival j => exact h.fieldArrival j
  | lineArrival j => exact h.lineArrival j
  | headExpiry k => exact h.headExpiry k
  | channelExpiry c => exact h.channelExpiry c
  | silenceExpiry =>
    unfold State.silenceExpiry
    split <;> exact h
  | relayExpiry k =>
    unfold State.relayExpiry
    split <;> exact h
  | roundExpiry =>
    unfold State.roundExpiry
    split <;> exact h
  | restoreExpiry k => exact h.congr (State.restoreExpiry_heads ..) (State.restoreExpiry_channels ..)
  | activationExpiry l =>
    unfold State.activationExpiry
    split
    · exact State.SourcesSound.localRestore (s := s.setLine l { s.lines[l] with activation := .spent, timer := none }) h _
    · exact h
  | arbiterTurn =>
    exact State.arbitrate_preserves (fun _ _ _ hs ht => hs.takeReady ht) (fun _ o hs => hs.afterSent o)
      (fun _ _ hs => hs) _ s h
  | lineSent =>
    unfold State.lineSent
    split
    · exact h
    · next o _ => exact State.SourcesSound.afterSent (s := s.setLinePort { s.linePort with tx := none }) h o
  | startOrder =>
    unfold State.startOrder
    split <;> exact h

end State.SourcesSound

/-- Settles O11: the records stay sound along every event a step can take. -/
theorem sourcesStaySound : Obligations.SourcesStaySound := by
  unfold Obligations.SourcesStaySound
  exact fun s t hs ht => step_preserves (fun _ h => h) (fun _ _ h he => h.event he) hs ht

end Sys2Proof.Machine
end

section
/-! SUPPORT. Changes of a head's record delivered (R40, R123), sequence breaks (R23, R26), WHEEL frames in sequence (R27,
R32), and supervision expiries (R33, R34, R136). -/

namespace Sys2Proof.Machine

/-! ## The delivery of a change (R40, R123) -/

theorem headEvent_self (st : SourceState) (a : LossAction) : headEvent st st a = none := by cases st <;> rfl

/-- A note of a change of status moves the relay-out records alone. -/
theorem State.noteStatus_frame (s : State) (k : Fin 32) (b : OriginStatus) :
    { s.noteStatus k b with relayOut := s.relayOut } = s := by
  unfold State.noteStatus
  split <;> rfl

/-- The relay unit notes a change of the reported status at a relaying head (R123). -/
theorem State.noteStatus_told {s : State} {k : Fin 32} {b : OriginStatus} (hr : s.tables.heads[k].relayOut ≠ 0)
    (hb : s.statusOf k ≠ b) : (s.noteStatus k b).relayOut = upd s.relayOut k { s.relayOut[k] with ready := true } := by
  rw [State.noteStatus, if_pos ⟨(HeadRec.relays_iff _).mpr hr, hb⟩]
  rfl

theorem State.noteStatus_untold {s : State} {k : Fin 32} {b : OriginStatus}
    (h : ¬(s.tables.heads[k].relayOut ≠ 0 ∧ s.statusOf k ≠ b)) : s.noteStatus k b = s := by
  rw [← HeadRec.relays_iff] at h
  exact if_neg h

theorem State.statusOf_setHead (s : State) (k : Fin 32) (h : HeadRun) :
    (s.setHead k h).statusOf k = reportedStatus h.state s.relayOut[k].broken := by
  unfold State.statusOf
  rw [State.setHead_heads, upd_get_self, State.setHead_relayOut]

/-- A change of neither state nor health is the change of the record alone. -/
theorem State.commitHead_quiet {s : State} {k : Fin 32} {h : HeadRun} (hs : h.state = s.heads[k].state)
    (ha : h.healthA = s.heads[k].healthA) (hb : h.healthB = s.heads[k].healthB) : s.commitHead k h = s.setHead k h := by
  have hstatus : (s.setHead k h).statusOf k = s.statusOf k := by rw [State.statusOf_setHead, hs]; rfl
  unfold State.commitHead
  dsimp only
  rw [State.noteStatus_untold fun hc => hc.2 hstatus, hs, headEvent_self, ha, hb]
  exact if_neg (by simp)

/-- A record committed as it stands changes nothing. -/
theorem State.commitHead_same (s : State) (k : Fin 32) : s.commitHead k s.heads[k] = s := by
  rw [State.commitHead_quiet rfl rfl rfl, State.setHead, upd_same]

/-- Settles O30: the steps of a commit, one by one. -/
theorem headChangesAreDelivered : Obligations.HeadChangesAreDelivered := by
  unfold Obligations.HeadChangesAreDelivered
  refine ⟨fun _ _ => rfl, rfl, rfl, rfl, rfl, rfl, rfl, fun s k h => ?_⟩
  intro old n told
  have htold : told ↔ (s.setHead k h).tables.heads[k].relayOut ≠ 0 ∧ (s.setHead k h).statusOf k ≠ s.statusOf k := by
    rw [State.statusOf_setHead]
    exact and_congr_right fun _ => ne_comm
  generalize hv : (s.setHead k h).noteStatus k (s.statusOf k) = v
  refine ⟨v, ?_, fun ht => ?_, fun ht => ?_, ?_⟩
  · rw [← hv]
    exact (s.setHead k h).noteStatus_frame k (s.statusOf k)
  · rw [← hv]
    exact State.noteStatus_told (htold.mp ht).1 (htold.mp ht).2
  · rw [← hv, State.noteStatus_untold (mt htold.mpr ht)]
    rfl
  generalize hw : (if old.healthA ≠ h.healthA ∨ old.healthB ≠ h.healthB then v.deliver n .healthChanged else v) = w
  have hcommit : s.commitHead k h = w.deliverOpt n (headEvent old.state h.state s.tables.heads[k].lossAction) := by
    rw [← hw, ← hv]
    rfl
  have hevent {e : SourceEvent} (he : headEvent old.state h.state s.tables.heads[k].lossAction = some e) :
      s.commitHead k h = w.deliver n e := by
    rw [hcommit, he]
    rfl
  refine ⟨w, fun hhealth => ?_, fun hhealth => ?_, fun hstate => ?_, fun hold hnew => hevent ?_, fun hold hnew => hevent ?_,
    fun hold hnew => hevent ?_, fun hold hnew => hevent ?_, fun hold hnew => hevent ?_, fun hold hnew => hevent ?_⟩
  · rw [← hw, if_neg (by simp [hhealth.1, hhealth.2])]
  · rw [← hw, if_pos hhealth]
  · rw [hcommit, hstate, headEvent_self]
    rfl
  · rcases hold with hold | hold | hold <;> rw [hold, hnew] <;> rfl
  · rw [hold, hnew]
    rfl
  · rw [hold, hnew]
    rfl
  · rcases hold with hold | hold <;> rw [hold, hnew] <;> rfl
  · rcases hold with hold | hold | hold <;> rw [hold, hnew] <;> rfl
  · rcases hold with hold | hold | hold | hold <;> rw [hold, hnew] <;> rfl

/-! ## Sequence breaks (R23, R26) -/

theorem judgeSeq_repeated (e : Byte) : judgeSeq (some e) (e - 1) = .repeated := by
  have hne : e - 1 ≠ e := by bv_omega
  exact (if_neg hne).trans (if_pos rfl)

theorem judgeSeq_gap {e q : Byte} (hlast : q ≠ e - 1) (hnext : q ≠ e) : judgeSeq (some e) q = .gap :=
  (if_neg hnext).trans (if_neg hlast)

/-- A WHEEL for a claimed slot in RUN is handed to its supervisor. -/
theorem State.wheel_arrives {s : State} {hdr : Header} {k : Fin 32} (h : s.toSupervisor hdr k) (q flags : Byte)
    {es : List EdgeOperand} (h1 : 1 ≤ es.length) (h6 : es.length ≤ 6) : exec (.wheel hdr q flags es) s =
      .next ((s.fieldHeard (wheelOperand hdr q flags es)).wheelFrame k q flags es) := by
  obtain ⟨hon, hmode, hclaim⟩ := h
  have hexec : exec (.wheel hdr q flags es) s = .next (s.fieldArrival (judgeFrame (wheelOperand hdr q flags es))) := rfl
  have hslot : (s.fieldHeard (wheelOperand hdr q flags es)).tables.slotOfNode (wheelOperand hdr q flags es).hdr.srcNode =
      some k := State.slotOfNode_claims hclaim
  have hmode' : (s.fieldHeard (wheelOperand hdr q flags es)).mode = .run := hmode
  have hkind : (wheelOperand hdr q flags es).kind = 0x12 := rfl
  rw [hexec, judge_wheel _ _ _ _ h1 h6, State.fieldArrival_checked hon, State.evaluate_claimed hmode' hslot, hkind,
    if_neg (by decide), if_pos rfl, wheelEdges_operand]
  rfl

/-- Settles O32: the sequence verdict decides, and a broken or waiting head hears nothing. -/
theorem sequenceBreaksAreFaults : Obligations.SequenceBreaksAreFaults := by
  unfold Obligations.SequenceBreaksAreFaults
  intro s hdr seq ts a b st flags edges k hto h1 h6 h uL uW
  have hlife := State.life_arrives hto seq ts a b st
  have hwheel := State.wheel_arrives hto seq flags h1 h6
  refine ⟨fun e hc he hq => ?_, fun e hc he hlast hnext => ?_, fun hf => ?_, fun hw => ?_⟩
  · have hj : judgeSeq s.heads[k].expected seq = .repeated := by
      rw [hq, show s.heads[k].expected = some e from he]
      exact judgeSeq_repeated e
    have hrecord : h.repeated = { h with repeats := oneMore h.repeats } := by rw [HeadRun.repeated, satInc_eq]
    rw [hlife, HeadRun.life_repeated hc hj, hwheel, State.wheelFrame_repeated (s := uW) hc hj, ← hrecord]
    exact ⟨congrArg _ (State.commitHead_quiet (s := uL) rfl rfl rfl), congrArg _ (State.commitHead_quiet (s := uW) rfl rfl rfl)⟩
  · have hj : judgeSeq s.heads[k].expected seq = .gap := by
      rw [show s.heads[k].expected = some e from he]
      exact judgeSeq_gap hlast hnext
    rw [hlife, HeadRun.life_gap hc hj, hwheel, State.wheelFrame_gap (s := uW) hc hj]
    exact ⟨rfl, rfl⟩
  · have hdeaf : ¬uW.heads[k].state.chained := (SourceState.not_chained_iff _).mpr (.inr (.inr (.inl hf)))
    rw [hlife, HeadRun.life_deaf (.inr hf), hwheel, State.wheelFrame_deaf hdeaf]
    exact ⟨congrArg _ (uL.commitHead_same k), rfl⟩
  · have hdeaf : ¬uW.heads[k].state.chained := (SourceState.not_chained_iff _).mpr (by tauto)
    rw [hwheel, State.wheelFrame_deaf hdeaf]

/-! ## A WHEEL in sequence (R27, R32) -/

/-- The edge records of one sensor, and of the other (R27). -/
theorem edges_countP (es : List EdgeOperand) :
    (es.countP fun e => sensorOf e == .a) = (es.countP fun e => !e.edge.getLsbD 0) ∧
    (es.countP fun e => sensorOf e == .b) = es.length - (es.countP fun e => !e.edge.getLsbD 0) := by
  have ha (e : EdgeOperand) : (sensorOf e == .a) = !e.edge.getLsbD 0 := by
    unfold sensorOf
    cases e.edge.getLsbD 0 <;> rfl
  have hb (e : EdgeOperand) : (sensorOf e == .b) = e.edge.getLsbD 0 := by
    unfold sensorOf
    cases e.edge.getLsbD 0 <;> rfl
  simp only [ha, hb]
  have hsum := List.length_eq_countP_add_countP (fun e : EdgeOperand => !e.edge.getLsbD 0) (l := es)
  simp only [Bool.not_eq_true', Bool.not_eq_false, Bool.decide_eq_true] at hsum
  exact ⟨trivial, by omega⟩

section
variable {s : State} {k : Fin 32} {q flags : Byte} {es : List EdgeOperand}

/-- The record of slot `k` with a WHEEL in sequence accepted and its edges counted (R26, R27). -/
def State.countedHead (s : State) (k : Fin 32) (q : Byte) (es : List EdgeOperand) : HeadRun :=
  (s.heads[k].accept q (s.headTimer k)).countEdges es

theorem State.wheelAccepted_test (h : flags.getLsbD 0 = true) :
    s.wheelAccepted k q flags es = s.commitHead k (s.countedHead k q es).enterTest := if_pos h

theorem State.wheelAccepted_anchored {an : Anchor} (h : flags.getLsbD 0 = false) (ha : s.heads[k].anchor = some an) :
    s.wheelAccepted k q flags es =
      if 1000000 < (s.partTime - an.part).toNat then s.commitHead k ((s.countedHead k q es).enterFaulty .timeAnchor)
      else (s.commitHead k (s.countedHead k q es)).edges k an none es := by
  have hanchor : ((s.heads[k].accept q (s.headTimer k)).countEdges es).anchor = some an := ha
  unfold State.wheelAccepted
  dsimp only
  rw [if_neg (by rw [h]; exact Bool.false_ne_true), hanchor]
  simp only [Anchor.stale_iff]
  rfl

/-- Whatever happens to the edges of an accepted WHEEL, the slot's counts stand and no other head moves (R27). -/
theorem State.wheelAccepted_counts (s : State) (k : Fin 32) (q flags : Byte) (es : List EdgeOperand) :
    ∃ h : HeadRun, (h.recvA = (s.countedHead k q es).recvA ∧ h.recvB = (s.countedHead k q es).recvB) ∧
      (s.wheelAccepted k q flags es).heads = upd s.heads k h := by
  unfold State.wheelAccepted
  dsimp only
  split
  · exact ⟨(s.countedHead k q es).enterTest, ⟨rfl, rfl⟩, State.commitHead_heads ..⟩
  · split
    · exact ⟨(s.countedHead k q es).enterFaulty .timeAnchor, ⟨rfl, rfl⟩, State.commitHead_heads ..⟩
    · split
      · exact ⟨(s.countedHead k q es).enterFaulty .timeAnchor, ⟨rfl, rfl⟩, State.commitHead_heads ..⟩
      · next a _ _ =>
        have hcommit : (s.commitHead k (s.countedHead k q es)).heads = upd s.heads k (s.countedHead k q es) :=
          State.commitHead_heads ..
        obtain ⟨h, hcounts, hheads⟩ := State.edges_heads (k := k)
          (P := fun h => h.recvA = (s.countedHead k q es).recvA ∧ h.recvB = (s.countedHead k q es).recvB)
          (fun _ hP => hP) (fun _ _ hP => hP) (fun _ _ _ _ _ _ _ hP _ => hP) a es
          (s.commitHead k (s.countedHead k q es)) none (by rw [hcommit, upd_get_self]; exact ⟨rfl, rfl⟩)
        exact ⟨h, hcounts, by rw [← upd_upd s.heads k (s.countedHead k q es) h, ← hcommit]; exact hheads⟩

end

/-- Settles O34: the counts along every branch, then the branches. -/
theorem wheelEdgesAreCounted : Obligations.WheelEdgesAreCounted := by
  unfold Obligations.WheelEdgesAreCounted
  intro s hdr seq flags edges k hto h1 h6 hc hq u h onA base still
  have hexec : exec (.wheel hdr seq flags edges) s = .next (u.wheelAccepted k seq flags edges) := by
    have hj : judgeSeq u.heads[k].expected seq = .next := by
      rw [show u.heads[k].expected = some seq from hq]
      exact judgeSeq_next seq
    rw [State.wheel_arrives hto seq flags h1 h6, State.wheelFrame_sequence (s := u) hc hj]
  have hbase : u.countedHead k seq edges = base := by
    rw [State.countedHead, HeadRun.countEdges, (edges_countP edges).1, (edges_countP edges).2]
    rfl
  rw [hexec]
  refine ⟨⟨_, rfl, ?_⟩, fun hflag => ?_, fun an hflag han hstale => ?_, fun an hflag han hfresh => ?_⟩
  · obtain ⟨r, ⟨hA, hB⟩, hheads⟩ := u.wheelAccepted_counts k seq flags edges
    rw [hheads, hbase] at *
    refine ⟨?_, ?_, fun j hj => upd_get_ne _ (Ne.symm hj) _⟩
    · rw [upd_get_self, hA]
    · rw [upd_get_self, hB]
  · rw [State.wheelAccepted_test hflag, hbase]
    rfl
  · rw [State.wheelAccepted_anchored (s := u) hflag han, hbase]
    exact congrArg _ (if_pos hstale)
  · rw [State.wheelAccepted_anchored (s := u) hflag han, hbase]
    exact congrArg _ (if_neg (not_lt.mpr hfresh))

/-! ## Supervision expiries (R33, R34, R136) -/

theorem lateOrLost_late {old : SourceState} {n g : Nat} (h : old ≠ .lost) (hg : n ≤ g) : lateOrLost old n g = .late :=
  (if_neg h).trans (if_pos hg)

theorem lateOrLost_lost {old : SourceState} {n g : Nat} (h : old = .lost ∨ g < n) : lateOrLost old n g = .lost := by
  unfold lateOrLost
  split_ifs with hlost hgrace
  · rfl
  · rcases h with h | h
    · exact absurd h hlost
    · omega
  · rfl

/-- Settles O36: an expiry that is due ends in LATE or LOST by the missed periods; any other changes nothing. -/
theorem silenceMakesSourcesLateThenLost : Obligations.SilenceMakesSourcesLateThenLost := by
  unfold Obligations.SilenceMakesSourcesLateThenLost
  intro s hup
  refine ⟨fun k => ?_, fun c => ?_⟩
  · intro h missed g
    have hexec : exec (.supervisionTimerExpiry k) s = .next (s.headExpiry k) := congrArg _ (State.whenUp_eq hup _)
    have hg (st : SourceState) (hst : lateOrLost h.state missed.val s.tables.heads[k].grace.val = st) :
        s.expiredHead k = g st := by
      rw [State.expiredHead, missInc_eq, ← hst]
      rfl
    rw [hexec, ← Timer.due_iff]
    refine ⟨fun hc hdue => ?_, fun hno => by rw [State.headExpiry_idle hno]⟩
    rw [State.headExpiry_due hc hdue]
    exact ⟨fun hne hgrace => by rw [hg _ (lateOrLost_late hne hgrace)], fun hlost => by rw [hg _ (lateOrLost_lost hlost)]⟩
  · intro r n missed g
    have hexec : exec (.channelSupervisionExpiry c) s = .next (s.channelExpiry c) := congrArg _ (State.whenUp_eq hup _)
    rw [hexec, ← Timer.due_iff]
    refine ⟨fun hdue => ?_, fun hno => by rw [State.channelExpiry_idle hno]⟩
    have hcommit {old new : SourceState} (hold : r.state = old) (hc : old.chained)
        (hnew : lateOrLost old missed.val s.tables.relays[c].grace.val = new) :
        s.channelExpiry c = (g new).deliverOpt n (channelEvent old new s.tables.relays[c].lossAction) := by
      subst hold
      rw [State.channelExpiry_due hc hdue, State.commitChannel, State.expiredChannel, missInc_eq, ← hnew]
      rfl
    refine ⟨fun hn hgrace => ?_, fun hl hgrace => ?_, fun hs hgrace => ?_, fun hl => ?_⟩
    · rw [hcommit hn (.inl rfl) (lateOrLost_late (by decide) hgrace)]
      rfl
    · rw [hcommit hl (.inr (.inl rfl)) (lateOrLost_late (by decide) hgrace)]
      rfl
    · rcases hs with hs | hs
      · rw [hcommit hs (.inl rfl) (lateOrLost_lost (.inr hgrace))]
        rfl
      · rw [hcommit hs (.inr (.inl rfl)) (lateOrLost_lost (.inr hgrace))]
        rfl
    · rw [hcommit hl (.inr (.inr rfl)) (lateOrLost_lost (.inl rfl))]
      rfl

end Sys2Proof.Machine
end

section
/-! SUPPORT. MODE (R165, R166): RUN entry and the change to CONFIG at every block; READMIT (R171) and what a readmission
makes of the records. -/

namespace Sys2Proof.Machine

/-! ## The local lines at a change of mode (R178, R179) -/

/-- The lines once every activation is dropped and the latches are judged, in a state with the lines of `s`. -/
theorem State.dropped_lines {s v : State} (ht : v.tables = s.tables) (hl : v.lines = s.lines) (l : Fin 8) :
    let x := v.dropActivations.judgeLatches.lines[l]
    x.board = s.lines[l].board ∧ x.timer = none ∧
      (s.tables.lines[l].function ≠ .sectionOut → s.tables.lines[l].function ≠ .alarmOut → x.latch = s.lines[l].latch) ∧
      x.activation = (if s.tables.lines[l].function = .restoreIn ∧ s.sensed l = true then .spent else .idle) := by
  have hsensed (hf : s.tables.lines[l].function = .restoreIn) : v.sensed l = s.sensed l := by
    have hs : s.tables.lines[l].function.output = false := by rw [hf]; rfl
    have hv : v.tables.lines[l].function.output = false := by rw [ht, hs]
    rw [State.sensed_undriven hs, State.sensed_undriven hv, ht, hl]
  have hactivation : (v.dropped l).activation =
      (if s.tables.lines[l].function = .restoreIn ∧ s.sensed l = true then .spent else .idle) := by
    rw [State.dropped, ht]
    by_cases hf : s.tables.lines[l].function = .restoreIn
    · rw [hsensed hf]
    · simp only [hf, false_and, if_false]
  have hdropped : v.dropActivations.lines[l] = v.dropped l := tab_get ..
  have hline : v.dropActivations.judgeLatches.lines[l] =
      if s.tables.lines[l].function.output then { v.dropped l with latch := v.dropActivations.latchCondition l }
      else v.dropped l := by
    rw [State.judgeLatches_line, hdropped, show v.dropActivations.tables = v.tables from rfl, ht]
  intro x
  have hx : x = _ := hline
  rw [hx]
  refine ⟨?_, ?_, fun hsection halarm => ?_, ?_⟩
  · rw [← hl]
    split <;> rfl
  · split <;> rfl
  · rw [if_neg (by rw [LineFunction.output_eq_false hsection halarm]; exact Bool.false_ne_true), ← hl]
    rfl
  · rw [← hactivation]
    split <;> rfl

/-! ## RUN entry (R22, R80, R122, R130, R140) -/

@[simp] theorem State.dropActivations_notice (s : State) : s.dropActivations.notice = s.notice := rfl

section
variable (s : State)

theorem State.runEntry_notice (c : Cause) :
    (s.runEntry c).notice = { s.notice with owed := (s.runEntry c).notice.owed } := by
  unfold State.runEntry
  rfl

/-- RUN entry frees the hold and moves nothing else of the notice unit but the owed flags (R140, R148). -/
theorem State.enterRun_notice : s.enterRun.notice = { s.notice with owed := s.enterRun.notice.owed, hold := .free } := by
  have h : s.enterRun.notice = { ((s.setMode .run).runEntry .start).notice with hold := .free } := by
    unfold State.enterRun
    dsimp only
    rw [State.judgeLatches_notice, State.dropActivations_notice, State.setNotice_notice, State.judgeWarnings_notice]
  rw [h, State.runEntry_notice]
  rfl

/-- What RUN entry sets and keeps outside the track and the local lines. -/
theorem State.enterRun_frame : s.enterRun =
    { s with
        mode := .run
        heads := s.enterRun.heads
        relayOut := s.enterRun.relayOut
        channels := s.enterRun.channels
        sections := s.enterRun.sections
        notice := { s.notice with owed := s.enterRun.notice.owed, hold := .free }
        lines := s.enterRun.lines } := by
  rw [← State.enterRun_notice]
  unfold State.enterRun
  rfl

theorem State.enterRun_heads (k : Fin 32) : s.enterRun.heads[k] =
    if s.tables.heads[k].used = true then s.heads[k].enterAwaiting else s.heads[k] := (s.setMode .run).runEntry_heads .start k

theorem State.enterRun_relayOut (k : Fin 32) : s.enterRun.relayOut[k] =
    if s.tables.heads[k].used = true ∧ s.tables.heads[k].relayOut ≠ 0 then
      s.relayOut[k].enterRun (s.timerAfter (ticks10ms s.tables.part.relayPeriod))
    else s.relayOut[k] := by
  have h := (s.setMode .run).runEntry_relayOut .start k
  simp only [Bool.and_eq_true, HeadRec.relays_iff] at h
  exact h

theorem State.enterRun_channels (c : Fin 8) : s.enterRun.channels[c] =
    if s.tables.relays[c].used = true then s.channels[c].enterAwaiting else s.channels[c] :=
  (s.setMode .run).runEntry_channels .start c

theorem State.enterRun_owed (k : Fin 24) :
    s.enterRun.notice.owed[k] = (s.notice.owed[k] || s.tables.sections[k].inUse) := (s.setMode .run).runEntry_owed .start k

/-- A section in use is DISTURBED by START, its warning judged from the sources as RUN entry leaves them (R80, R100). -/
theorem State.enterRun_used {k : Fin 24} (h : s.tables.sections[k].inUse = true) : s.enterRun.sections[k] =
    { s.sections[k].enterRun true .start s.partTime with
        warning := ((s.setMode .run).runEntry .start).warningOf k .disturbed } := by
  have hr := (s.setMode .run).runEntry_sections .start k
  rw [show (s.setMode .run).tables = s.tables from rfl, h] at hr
  refine (((s.setMode .run).runEntry .start).judgeWarnings_sections k).trans ?_
  rw [show ((s.setMode .run).runEntry .start).tables = s.tables from rfl, if_pos h, hr]
  rfl

/-- The warning a section has at RUN entry is that of its sources in RUN (R80, R100). -/
theorem State.enterRun_warns (k : Fin 24) : ((s.setMode .run).runEntry .start).warningOf k .disturbed = true ↔
    ∃ n, s.bounds n k ∧ s.enterRun.troubles n := by
  have hheads : s.enterRun.heads = ((s.setMode .run).runEntry .start).heads := rfl
  have hchannels : s.enterRun.channels = ((s.setMode .run).runEntry .start).channels := rfl
  rw [State.warningOf_iff, and_iff_right (by decide)]
  simp only [State.troubles, State.sourceState_congr hheads hchannels, hheads]
  exact Iff.rfl

theorem State.enterRun_unused {k : Fin 24} (h : s.tables.sections[k].inUse = false) :
    s.enterRun.sections[k] = s.sections[k].enterRun false .start s.partTime := by
  have hr := (s.setMode .run).runEntry_sections .start k
  rw [show (s.setMode .run).tables = s.tables from rfl, h] at hr
  refine (((s.setMode .run).runEntry .start).judgeWarnings_sections k).trans ?_
  rw [show ((s.setMode .run).runEntry .start).tables = s.tables from rfl, if_neg (by rw [h]; exact Bool.false_ne_true), hr]
  rfl

end

/-- MODE as the management unit takes it, past steps 1 to 5 of R163. -/
theorem State.mode_acts {s : State} {hdr : Header} (hto : s.toManagement hdr) (hfrom : s.fromMaintenance hdr) (tag p : Byte) :
    exec (.mode hdr tag [p]) s = .next (((s.heard (requestOperand hdr .mode tag [p])).doMode [p]).1.answered hdr 0x01 tag
      ((s.heard (requestOperand hdr .mode tag [p])).doMode [p]).2) :=
  State.request_acts hto .mode tag [p] (show 1 ≤ 62 by decide) rfl hfrom

theorem State.mode_answersOnly {s : State} {hdr : Header} (hto : s.toManagement hdr) (hfrom : s.fromMaintenance hdr)
    {tag p : Byte} {r : Reply} (h : (s.heard (requestOperand hdr .mode tag [p])).doMode [p] =
      (s.heard (requestOperand hdr .mode tag [p]), r)) : s.answersOnly .mode hdr tag [p] r :=
  State.answersOnly_of_act hto (show 1 ≤ 62 by decide) rfl hfrom rfl h

section
variable {s : State} {p : List Byte}

theorem State.doMode_config_run (h0 : byteAt p 0 = 0) (hm : s.mode = .run) : s.doMode p = s.enterConfig.okay := by
  rw [State.doMode, if_pos h0, hm]

theorem State.doMode_config_config (h0 : byteAt p 0 = 0) (hm : s.mode = .config) : s.doMode p = s.okay := by
  rw [State.doMode, if_pos h0, hm]

theorem State.doMode_run_run (h1 : byteAt p 0 = 1) (hm : s.mode = .run) : s.doMode p = s.okay := by
  rw [State.doMode, h1, if_neg (by decide), if_pos rfl, hm]

theorem State.doMode_run_offends {o : Offence} (h1 : byteAt p 0 = 1) (hm : s.mode = .config)
    (hv : s.tables.validate s.pins.ownStation = some o) :
    s.doMode p = (s, ⟨.validation, [o.check, o.table, BitVec.ofNat 8 o.index]⟩) := by
  rw [State.doMode, h1, if_neg (by decide), if_pos rfl, hm]
  simp only [hv]

theorem State.doMode_run_passes (h1 : byteAt p 0 = 1) (hm : s.mode = .config)
    (hv : s.tables.validate s.pins.ownStation = none) : s.doMode p = s.enterRun.okay := by
  rw [State.doMode, h1, if_neg (by decide), if_pos rfl, hm]
  simp only [hv]

theorem State.doMode_range (h : 2 ≤ (byteAt p 0).toNat) : s.doMode p = s.refuse .range := by
  have hne (b : Byte) (hb : b.toNat < 2) : byteAt p 0 ≠ b := fun he => by rw [he] at h; omega
  rw [State.doMode, if_neg (hne 0 (by decide)), if_neg (hne 1 (by decide))]

end

/-- Settles O51: validation's answer, or RUN entry block by block. -/
theorem runIsEntered : Obligations.RunIsEntered := by
  unfold Obligations.RunIsEntered
  intro s hdr tag hto hfrom hmode u
  refine ⟨fun o ho => State.mode_answersOnly hto hfrom (State.doMode_run_offends (s := u) rfl hmode ho), fun hv => ?_⟩
  have hexec := State.mode_acts hto hfrom tag 1
  rw [State.doMode_run_passes (s := u) rfl hmode hv] at hexec
  refine ⟨u.enterRun, hexec, u.enterRun_frame, fun k => ⟨u.enterRun_heads k, ?_⟩, u.enterRun_channels, fun k => ⟨fun hu => ?_, fun hu => ?_⟩,
    State.judgeLatches_follow _, State.dropped_lines (s := u) rfl rfl⟩
  · exact u.enterRun_relayOut k
  · rw [u.enterRun_used hu]
    refine ⟨rfl, ?_, ?_⟩
    · exact u.enterRun_warns k
    · rw [u.enterRun_owed, show u.tables.sections[k].inUse = true from hu, Bool.or_true]
  · rw [u.enterRun_unused hu, u.enterRun_owed, show u.tables.sections[k].inUse = false from hu, Bool.or_false]
    exact ⟨rfl, rfl⟩

/-! ## The change to CONFIG (R166) -/

/-- What the change to CONFIG sets and keeps outside heads, channels, sections and the local lines. -/
theorem State.enterConfig_frame (s : State) : s.enterConfig =
    { s with
        mode := .config
        heads := s.enterConfig.heads
        relayOut := Vector.replicate 32 .reset
        channels := s.enterConfig.channels
        sections := s.enterConfig.sections
        restoreTimers := Vector.replicate 24 none
        notice := { s.notice with owed := Vector.replicate 24 false, hold := .free }
        lines := s.enterConfig.lines } := rfl

/-- Settles O52: the blocks out of RUN one by one; any other MODE only answers. -/
theorem configIsEntered : Obligations.ConfigIsEntered := by
  unfold Obligations.ConfigIsEntered
  intro s hdr tag p hto hfrom
  refine ⟨fun h => ?_, fun hp => State.mode_answersOnly hto hfrom (State.doMode_range hp), fun hp hmode => ?_⟩
  · rcases h with ⟨hp, hmode⟩ | ⟨hp, hmode⟩
    · exact State.mode_answersOnly hto hfrom (State.doMode_config_config hp hmode)
    · exact State.mode_answersOnly hto hfrom (State.doMode_run_run hp hmode)
  · subst hp
    intro u
    have hexec := State.mode_acts hto hfrom tag 0
    rw [State.doMode_config_run (s := u) rfl hmode] at hexec
    exact ⟨u.enterConfig, hexec, u.enterConfig_frame, fun k => tab_get .., fun c => tab_get .., fun k => tab_get ..,
      State.judgeLatches_follow _, State.dropped_lines (s := u) rfl rfl⟩

/-! ## Readmission (R39, R127, R136) -/

section
variable {s : State}

/-- A broken head reports FAULTY, whatever its broken flag (R123). -/
theorem reportedStatus_broken {st : SourceState} (h : st = .faulty ∨ st = .lost) (b : Bool) : reportedStatus st b = .faulty := by
  rcases h with rfl | rfl <;> cases b <;> rfl

/-- The relay-out record of a readmitted head: it reports AWAITING now, which a relaying head announces (R127, R123). -/
def RelayOut.returned (r : RelayOut) (relayOut : Byte) : RelayOut :=
  { r with seq := 0, pending := [], broken := false, ready := r.ready || relayOut != 0 }

/-- A broken head's readmission is its two records and the event (R39, R127). -/
theorem State.readmitHead_eq {k : Fin 32} (h : s.heads[k].state = .faulty ∨ s.heads[k].state = .lost) : s.readmitHead k =
    ((s.setHead k s.heads[k].enterAwaiting).setRelayOut k (s.relayOut[k].returned s.tables.heads[k].relayOut)).deliver
      (headSource k) .readmitted := by
  have hstatus : ((s.setHead k s.heads[k].enterAwaiting).setRelayOut k s.relayOut[k].readmitted).statusOf k ≠ s.statusOf k := by
    rw [State.statusOf, State.statusOf, reportedStatus_broken h, State.setRelayOut_heads, State.setHead_heads, upd_get_self,
      State.setRelayOut_relayOut, upd_get_self]
    exact (by decide : OriginStatus.awaiting ≠ .faulty)
  have hnoted : ((s.setHead k s.heads[k].enterAwaiting).setRelayOut k s.relayOut[k].readmitted).noteStatus k (s.statusOf k) =
      (s.setHead k s.heads[k].enterAwaiting).setRelayOut k (s.relayOut[k].returned s.tables.heads[k].relayOut) := by
    by_cases hr : s.tables.heads[k].relayOut = 0
    · rw [State.noteStatus_untold (s := (s.setHead k _).setRelayOut k _) fun hc => hc.1 hr, RelayOut.returned, hr, bne_self_eq_false, Bool.or_false]
      rfl
    · rw [State.noteStatus, if_pos ⟨(HeadRec.relays_iff _).mpr hr, hstatus⟩, RelayOut.returned, bne_iff_ne.mpr hr,
        Bool.or_true]
      simp only [State.setRelayOut, upd_upd, upd_get_self]
      rfl
  rw [← hnoted]
  rfl

theorem State.readmitBroken_head {k : Fin 32} (h : s.heads[k].state = .faulty ∨ s.heads[k].state = .lost) :
    s.readmitBroken (headSource k) = s.readmitHead k := by
  unfold State.readmitBroken
  rw [State.sourceState_head, sourceHead_headSource]
  rcases h with h | h <;> rw [h]

theorem State.readmitBroken_channel {c : Fin 8} (h : s.channels[c].state = .faulty ∨ s.channels[c].state = .lost) :
    s.readmitBroken (channelSource c) = s.readmitChannel c := by
  unfold State.readmitBroken
  rw [State.sourceState_channel, sourceHead_channelSource, sourceChannel_channelSource]
  rcases h with h | h <;> rw [h]

theorem State.readmitBroken_kept {n : Fin 40} (h : ¬(s.sourceState n = .faulty ∨ s.sourceState n = .lost)) :
    s.readmitBroken n = s := by
  unfold State.readmitBroken
  split
  case h_1 hst => exact absurd (.inl hst) h
  case h_2 hst => exact absurd (.inr hst) h
  all_goals rfl

end

/-! ## READMIT (R171) -/

section
variable {s : State} {p : List Byte}

theorem State.doReadmit_range (h : 40 ≤ (byteAt p 0).toNat) : s.doReadmit p = s.refuse .range :=
  dif_neg (not_lt.mpr h)

/-- READMIT of count source `n`. -/
theorem State.doReadmit_source {n : Fin 40} (h : (byteAt p 0).toNat = n.val) : s.doReadmit p =
    if s.mode = .config then s.refuse .wrongMode
    else if s.sourceState n = .faulty ∨ s.sourceState n = .lost then (s.readmitBroken n).okay
    else s.refuse .wrongState := by
  have hlt : (byteAt p 0).toNat < 40 := by rw [h]; exact n.isLt
  have hn : (⟨(byteAt p 0).toNat, hlt⟩ : Fin 40) = n := Fin.ext h
  rw [State.doReadmit, dif_pos hlt, hn]

end

/-- Settles O56: the refusals in order, then the readmission of a head or of a channel. -/
theorem readmitReturnsBrokenSources : Obligations.ReadmitReturnsBrokenSources := by
  unfold Obligations.ReadmitReturnsBrokenSources
  intro s hdr tag p hto hfrom u refused
  have hrefused {r : Result} (h : u.doReadmit [p] = u.refuse r) : refused r :=
    State.answersOnly_of_act hto (show 1 ≤ 62 by decide) rfl hfrom rfl h
  have hexec : exec (.readmit hdr tag [p]) s =
      .next ((u.doReadmit [p]).1.answered hdr 0x05 tag (u.doReadmit [p]).2) :=
    State.request_acts hto .readmit tag [p] (show 1 ≤ 62 by decide) rfl hfrom
  refine ⟨fun hp => hrefused (State.doReadmit_range hp), fun n hn => ?_⟩
  have hsource := State.doReadmit_source (s := u) (p := [p]) hn
  have htaken (hm : s.mode = .run) (hb : u.sourceState n = .faulty ∨ u.sourceState n = .lost) :
      exec (.readmit hdr tag [p]) s = .next ((u.readmitBroken n).answered hdr 0x05 tag ⟨.ok, []⟩) := by
    rw [hexec, hsource, if_neg (show ¬u.mode = .config from by rw [show u.mode = .run from hm]; decide), if_pos hb]
    rfl
  refine ⟨fun hm => hrefused (hsource.trans (if_pos hm)), fun hm hf hl => hrefused ?_, fun k hm hk hb => ?_,
    fun c hm hc hb => ?_⟩
  · rw [hsource, if_neg (show ¬u.mode = .config from by rw [show u.mode = .run from hm]; decide)]
    exact if_neg (not_or.mpr ⟨hf, hl⟩)
  · subst hk
    rw [htaken hm (by rw [State.sourceState_head]; exact hb), State.readmitBroken_head (s := u) hb,
      State.readmitHead_eq (s := u) hb]
    obtain ⟨hheads, hrelayOut, htables⟩ : u.heads = s.heads ∧ u.relayOut = s.relayOut ∧ u.tables = s.tables := ⟨rfl, rfl, rfl⟩
    rw [← hheads, ← hrelayOut, ← htables]
    clear_value u
    rfl
  · subst hc
    rw [htaken hm (by rw [State.sourceState_channel]; exact hb), State.readmitBroken_channel (s := u) hb]
    have hchannels : u.channels = s.channels := rfl
    rw [← hchannels]
    clear_value u
    rfl

end Sys2Proof.Machine
end

section
/-! SUPPORT. Events spread over the sections of a source, read at one section: what a run of events reaches, and what
it keeps. -/

namespace Sys2Proof.Machine

/-! ## Folds that reach a condition -/

/-- A fold reaches a condition at the first element that brings it about, and later elements keep it. -/
theorem foldl_reaches {β δ : Type} {P Q : β → Prop} {g : β → δ → β} {hit : δ → Prop} (l : List δ)
    (before : ∀ b d, d ∈ l → ¬hit d → P b → P (g b d)) (here : ∀ b d, d ∈ l → hit d → P b → Q (g b d))
    (after : ∀ b d, d ∈ l → Q b → Q (g b d)) (hmem : ∃ d ∈ l, hit d) (b : β) (hb : P b) : Q (l.foldl g b) := by
  induction l generalizing b with
  | nil => obtain ⟨d, hd, -⟩ := hmem; cases hd
  | cons d l ih =>
    have hafter (b : β) (e : δ) (he : e ∈ l) : Q b → Q (g b e) := after b e (List.mem_cons_of_mem _ he)
    by_cases hd : hit d
    · exact foldl_preserves Q g l hafter _ (here b d List.mem_cons_self hd hb)
    · obtain ⟨e, he, hhit⟩ := hmem
      have hel : e ∈ l := (List.mem_cons.mp he).resolve_left fun heq => hd (heq ▸ hhit)
      exact ih (fun b e he => before b e (List.mem_cons_of_mem _ he)) (fun b e he => here b e (List.mem_cons_of_mem _ he))
        hafter ⟨e, hel, hhit⟩ _ (before b d List.mem_cons_self hd hb)

/-- The same along an ascending list, at a named element. -/
theorem foldl_reaches_at {β : Type} {n : Nat} {P Q : β → Prop} {g : β → Fin n → β} {k : Fin n} (l : List (Fin n))
    (hsorted : l.Pairwise (· < ·)) (hk : k ∈ l) (before : ∀ b j, j ∈ l → j < k → P b → P (g b j))
    (here : ∀ b, P b → Q (g b k)) (after : ∀ b j, j ∈ l → k < j → Q b → Q (g b j)) (b : β) (hb : P b) : Q (l.foldl g b) := by
  induction l generalizing b with
  | nil => cases hk
  | cons i l ih =>
    obtain ⟨hi, hl⟩ := List.pairwise_cons.mp hsorted
    rcases List.mem_cons.mp hk with rfl | hkl
    · exact foldl_preserves Q g l (fun b j hj => after b j (List.mem_cons_of_mem _ hj) (hi j hj)) _ (here b hb)
    · exact ih hl hkl (fun b j hj => before b j (List.mem_cons_of_mem _ hj))
        (fun b j hj => after b j (List.mem_cons_of_mem _ hj)) _ (before b i List.mem_cons_self (hi k hkl) hb)

/-! ## A source event at one section -/

section
variable {n : Fin 40} {e : SourceEvent}

/-- An event that does not leave its source NORMAL changes its section's record by its own effect, and the warning. -/
theorem State.sourceEventAt_self (he : e.toNormal = false) (s : State) (x : Fin 24) : ∃ b w,
    (s.sourceEventAt n e x).sections[x] = { s.sections[x].sourceEvent n e b s.partTime with warning := w } := by
  refine ⟨s.allSupervised x, s.warningOf x (s.eventRecord n e x).state, ?_⟩
  have hrecord : s.eventRecord n e x = s.sections[x].sourceEvent n e (s.allSupervised x) s.partTime := by
    rw [State.eventRecord, he]
    exact if_neg fun h => Bool.false_ne_true h.1
  rw [State.sourceEventAt_get, upd_get_self, hrecord]

/-- A property every delivery at a section keeps is kept by the event. -/
theorem State.deliver_preserves {P : State → Prop} (h : ∀ t x, P t → P (t.sourceEventAt n e x)) (s : State) (hs : P s) :
    P (s.deliver n e) := foldl_preserves P _ _ (fun t d _ => h t d.1) s hs

/-- What an event keeps of a section's record at every delivery, it keeps over all of them. -/
theorem State.deliver_keeps {Q : SecRun → Prop} {now : Time} (he : e.toNormal = false)
    (hstep : ∀ r b w, Q r → Q { r.sourceEvent n e b now with warning := w }) {s : State} (hnow : s.partTime = now)
    {x : Fin 24} (hQ : Q s.sections[x]) : Q (s.deliver n e).sections[x] := by
  refine (State.deliver_preserves (P := fun t => t.partTime = now ∧ Q t.sections[x]) (fun t j ht => ?_) s ⟨hnow, hQ⟩).2
  obtain ⟨htime, hQt⟩ := ht
  refine ⟨by rw [State.sourceEventAt_partTime, htime], ?_⟩
  by_cases hx : x = j
  · subst hx
    obtain ⟨b, w, hr⟩ := State.sourceEventAt_self he t x (n := n)
    rw [hr, htime]
    exact hstep _ b w hQt
  · rw [State.sourceEventAt_other t n e hx]
    exact hQt

/-- What an event brings about at a section it reaches, when further deliveries keep it. -/
theorem State.deliver_reaches {P Q : SecRun → Prop} {now : Time} (he : e.toNormal = false)
    (hfirst : ∀ r b w, P r → Q { r.sourceEvent n e b now with warning := w })
    (hagain : ∀ r b w, Q r → Q { r.sourceEvent n e b now with warning := w }) {s : State} (hnow : s.partTime = now)
    {x : Fin 24} (hb : s.bounds n x) (hP : P s.sections[x]) : Q (s.deliver n e).sections[x] := by
  have hstep {A B : SecRun → Prop} (hAB : ∀ r b w, A r → B { r.sourceEvent n e b now with warning := w }) (t : State)
      (ht : t.partTime = now ∧ A t.sections[x]) :
      (t.sourceEventAt n e x).partTime = now ∧ B (t.sourceEventAt n e x).sections[x] := by
    obtain ⟨b, w, hr⟩ := State.sourceEventAt_self he t x (n := n)
    rw [State.sourceEventAt_partTime, hr, ht.1]
    exact ⟨rfl, hAB _ b w ht.2⟩
  have hother {A : SecRun → Prop} (t : State) (j : Fin 24) (hj : x ≠ j) (ht : t.partTime = now ∧ A t.sections[x]) :
      (t.sourceEventAt n e j).partTime = now ∧ A (t.sourceEventAt n e j).sections[x] := by
    rw [State.sourceEventAt_partTime, State.sourceEventAt_other t n e hj]
    exact ht
  obtain ⟨sense, hmem⟩ := (State.mem_entries s n x).mpr hb
  refine (foldl_reaches (P := fun t : State => t.partTime = now ∧ P t.sections[x])
    (Q := fun t : State => t.partTime = now ∧ Q t.sections[x]) (hit := fun d : Fin 24 × Sense => x = d.1) _
    (fun t d _ hd ht => hother t d.1 hd ht) (fun t d _ hd ht => ?_) (fun t d _ ht => ?_) ⟨_, hmem, rfl⟩ s ⟨hnow, hP⟩).2
  · obtain ⟨j, y⟩ := d
    cases hd
    exact hstep hfirst t ht
  · by_cases hx : x = d.1
    · obtain ⟨j, y⟩ := d
      cases hx
      exact hstep hagain t ht
    · exact hother t d.1 hx ht

end

/-! ## What a source's event finds as the sections stood -/

/-- Everything an event at sections reads or moves but the sources' own records. -/
def State.SameSections (s t : State) : Prop :=
  t.sections = s.sections ∧ t.restoreTimers = s.restoreTimers ∧ t.notice = s.notice ∧ t.tables = s.tables ∧
    t.partTime = s.partTime

/-- A change of a head's record with its note leaves the sections as they stood. -/
theorem State.sameSections_noted (s : State) (k : Fin 32) (h : HeadRun) (b : OriginStatus) :
    s.SameSections ((s.setHead k h).noteStatus k b) := by
  unfold State.noteStatus
  split <;> exact ⟨rfl, rfl, rfl, rfl, rfl⟩

theorem State.bounds_congr {s t : State} (h : t.tables = s.tables) (n : Fin 40) (x : Fin 24) : t.bounds n x ↔ s.bounds n x := by
  rw [State.bounds, State.bounds, h]

end Sys2Proof.Machine
end

section
/-! SUPPORT. TEST_START past the first steps of R17: the intercept (R151, R152), and the addressed heads entering IN_TEST
one at a time (R37, R153), with what that makes of their records and of the sections (R94). -/

namespace Sys2Proof.Machine

/-! ## The heads an order addresses, and the one that blocks it (R151, R152) -/

theorem State.slotOfNode_iff (s : State) (node : Byte) (k : Fin 32) : s.tables.slotOfNode node = some k ↔ s.claims k node := by
  refine ⟨fun h => ?_, State.slotOfNode_claims⟩
  obtain ⟨hk, hlow⟩ := lowest_eq_some h
  simp only [Bool.and_eq_true, beq_iff_eq] at hk
  refine ⟨hk, fun j hj hc => ?_⟩
  have hno := hlow j hj
  simp only [hc.1, hc.2, beq_self_eq_true, Bool.and_self] at hno
  cases hno

/-- No used slot has the broadcast address. -/
theorem State.not_claims_broadcast (s : State) (k : Fin 32) : ¬s.claims k 255 := by
  rintro ⟨⟨hused, haddress⟩, -⟩
  rw [HeadRec.used, haddress] at hused
  exact absurd hused (by decide)

theorem State.mem_addressed (s : State) (node : Byte) (k : Fin 32) :
    k ∈ s.addressed node ↔ s.claims k node ∨ (node = 255 ∧ s.tables.heads[k].used = true) := by
  unfold State.addressed
  split
  · next h =>
    subst h
    simp only [List.mem_filter, List.mem_finRange, true_and, s.not_claims_broadcast k, false_or]
  · next h =>
    rw [Option.mem_toList, State.slotOfNode_iff]
    simp only [h, false_and, or_false]

theorem State.addressed_sorted (s : State) (node : Byte) : (s.addressed node).Pairwise (· < ·) := by
  unfold State.addressed
  split
  · exact (List.pairwise_lt_finRange 32).filter _
  · cases s.tables.slotOfNode node <;> simp

theorem State.blocks_iff (s : State) (k : Fin 32) : s.blocks k = true ↔ s.tables.heads[k].guarded = true ∧
    ∃ x : Fin 24, s.bounds (headSource k) x ∧ s.sections[x].state ≠ .off ∧ s.sections[x].state ≠ .disturbed := by
  have hstate (st : SecState) : (st.counting || st == .restoreWait) = true ↔ st ≠ .off ∧ st ≠ .disturbed := by
    cases st <;> decide
  simp only [State.blocks, Bool.and_eq_true, List.any_eq_true, hstate]
  refine and_congr_right fun _ => ⟨?_, ?_⟩
  · rintro ⟨⟨x, sense⟩, hmem, hst⟩
    exact ⟨x, (s.mem_entries _ x).mp ⟨sense, hmem⟩, hst⟩
  · rintro ⟨x, hb, hst⟩
    obtain ⟨sense, hmem⟩ := (s.mem_entries _ x).mpr hb
    exact ⟨(x, sense), hmem, hst⟩

/-- The first of an ascending list with a property is the least. -/
theorem find?_least {n : Nat} {p : Fin n → Bool} {k : Fin n} {l : List (Fin n)} (hsorted : l.Pairwise (· < ·)) (hk : k ∈ l)
    (hp : p k = true) (hleast : ∀ j, j ∈ l → j < k → p j = false) : l.find? p = some k := by
  induction l with
  | nil => cases hk
  | cons i l ih =>
    obtain ⟨hi, hl⟩ := List.pairwise_cons.mp hsorted
    rcases List.mem_cons.mp hk with rfl | hkl
    · rw [List.find?_cons_of_pos hp]
    · rw [List.find?_cons_of_neg (by simp [hleast i List.mem_cons_self (hi k hkl)])]
      exact ih hl hkl fun j hj => hleast j (List.mem_cons_of_mem _ hj)

/-! ## A head entering IN_TEST (R37, R153) -/

/-- The states a queued TEST_START takes to IN_TEST (R37). -/
def SourceState.testable (st : SourceState) : Prop := st = .awaiting ∨ st.chained

/-- The relay-out record of a head that enters IN_TEST: a relaying head that did not report FAULTY does now (R123). -/
def State.testedRelay (s : State) (k : Fin 32) : RelayOut :=
  { s.relayOut[k] with ready := s.relayOut[k].ready || (s.tables.heads[k].relayOut != 0 &&
      reportedStatus s.heads[k].state s.relayOut[k].broken != .faulty) }

theorem State.noteStatus_inTest (s : State) (k : Fin 32) :
    ((s.setHead k s.heads[k].enterTest).noteStatus k (s.statusOf k)).relayOut = upd s.relayOut k (s.testedRelay k) := by
  have hstatus : (s.setHead k s.heads[k].enterTest).statusOf k = .faulty := by
    rw [State.statusOf_setHead]
    cases s.relayOut[k].broken <;> rfl
  by_cases h : s.tables.heads[k].relayOut ≠ 0 ∧ reportedStatus s.heads[k].state s.relayOut[k].broken ≠ .faulty
  · rw [State.noteStatus_told (s := s.setHead k _) h.1 (by rw [hstatus]; exact h.2.symm), State.testedRelay,
      bne_iff_ne.mpr h.1, bne_iff_ne.mpr h.2, Bool.and_self, Bool.or_true]
    rfl
  · have hno : (s.tables.heads[k].relayOut != 0 &&
        reportedStatus s.heads[k].state s.relayOut[k].broken != .faulty) = false := by
      rw [← Bool.not_eq_true, Bool.and_eq_true, bne_iff_ne, bne_iff_ne]
      exact h
    rw [State.noteStatus_untold (s := s.setHead k _) (b := s.statusOf k) fun hc => h ⟨hc.1, fun he => hc.2 (hstatus.trans he.symm)⟩,
      State.testedRelay, hno, Bool.or_false]
    exact (upd_same ..).symm

theorem State.testHead_commits {s : State} {k : Fin 32} (h : s.heads[k].state.testable) :
    s.testHead k = s.commitHead k s.heads[k].enterTest := by
  unfold State.testHead
  rcases h with h | h | h | h <;> rw [h]

/-- A testable head's test is its two records and the event (R37, R40, R123). -/
theorem State.testHead_enters {s : State} {k : Fin 32} (h : s.heads[k].state.testable) :
    ∃ v : State, s.testHead k = v.deliver (headSource k) .inTest ∧ s.SameSections v ∧
      v.heads = upd s.heads k s.heads[k].enterTest ∧ v.relayOut = upd s.relayOut k (s.testedRelay k) := by
  have hevent (a : LossAction) : headEvent s.heads[k].state .inTest a = some .inTest := by
    rcases h with h | h | h | h <;> rw [h] <;> rfl
  have hcommit : s.commitHead k s.heads[k].enterTest =
      ((s.setHead k s.heads[k].enterTest).noteStatus k (s.statusOf k)).deliver (headSource k) .inTest := by
    unfold State.commitHead
    dsimp only
    rw [if_neg (by simp [HeadRun.enterTest]), show s.heads[k].enterTest.state = .inTest from rfl, hevent]
    rfl
  exact ⟨_, (State.testHead_commits h).trans hcommit, s.sameSections_noted k _ _, State.noteStatus_heads .., s.noteStatus_inTest k⟩

theorem State.testHead_kept {s : State} {k : Fin 32} (h : ¬s.heads[k].state.testable) : s.testHead k = s := by
  unfold State.testHead
  split
  case h_1 hst | h_2 hst | h_3 hst | h_4 hst =>
    exact absurd (by rw [hst]; simp [SourceState.testable, SourceState.chained]) h
  all_goals rfl

theorem State.testHead_channels (s : State) (k : Fin 32) : (s.testHead k).channels = s.channels := by
  by_cases h : s.heads[k].state.testable
  · rw [State.testHead_commits h, State.commitHead_channels]
  · rw [State.testHead_kept h]

/-- The records of the slot under test. -/
theorem State.testHead_self {s : State} {k : Fin 32} (h : s.heads[k].state.testable) :
    (s.testHead k).heads[k] = s.heads[k].enterTest ∧ (s.testHead k).relayOut[k] = s.testedRelay k := by
  obtain ⟨v, htest, -, hheads, hrelay⟩ := State.testHead_enters h
  rw [htest, State.deliver_heads, State.deliver_relayOut, hheads, hrelay, upd_get_self, upd_get_self]
  exact ⟨rfl, rfl⟩

/-- The records of any other slot. -/
theorem State.testHead_other (s : State) {j k : Fin 32} (hne : j ≠ k) :
    (s.testHead k).heads[j] = s.heads[j] ∧ (s.testHead k).relayOut[j] = s.relayOut[j] := by
  by_cases h : s.heads[k].state.testable
  · obtain ⟨v, htest, -, hheads, hrelay⟩ := State.testHead_enters h
    rw [htest, State.deliver_heads, State.deliver_relayOut, hheads, hrelay, upd_get_ne _ hne.symm, upd_get_ne _ hne.symm]
    exact ⟨rfl, rfl⟩
  · rw [State.testHead_kept h]
    exact ⟨rfl, rfl⟩

/-! ## The sections of a head entering IN_TEST (R94) -/

/-- A disturbing event at a section OFF or DISTURBED repeats a disturbance at most (R83). -/
theorem SecRun.disturbing_still {r : SecRun} (h : r.state = .off ∨ r.state = .disturbed) (c : Cause) (n : Fin 40) (now : Time) :
    r.disturbing c n now = { r with repeated := r.repeated || r.state == .disturbed } := by
  cases r
  rcases h with h | h <;> cases h <;> simp [SecRun.disturbing]

/-- A disturbing event at any other section disturbs it (R82, R94). -/
theorem SecRun.disturbing_other {r : SecRun} (hoff : r.state ≠ .off) (hdist : r.state ≠ .disturbed) (c : Cause) (n : Fin 40)
    (now : Time) : r.disturbing c n now = r.disturb c (some n) now := by
  unfold SecRun.disturbing
  split
  · next h => exact absurd h hoff
  · next h => exact absurd h hdist
  all_goals rfl

theorem State.testHead_section_other {s : State} {k : Fin 32} {x : Fin 24} (h : ¬s.bounds (headSource k) x) :
    (s.testHead k).sections[x] = s.sections[x] := by
  by_cases ht : s.heads[k].state.testable
  · obtain ⟨v, htest, ⟨hsections, -, -, htables, -⟩, -⟩ := State.testHead_enters ht
    rw [htest, State.deliver_other _ _ _ (mt (State.bounds_congr htables _ x).mp h), hsections]
  · rw [State.testHead_kept ht]

/-- What every test keeps of a section's record. -/
theorem State.testHead_section_keeps {Q : SecRun → Prop} {now : Time}
    (hstep : ∀ n r w, Q r → Q { SecRun.disturbing r .headTest n now with warning := w }) {s : State} (hnow : s.partTime = now)
    (k : Fin 32) {x : Fin 24} (hQ : Q s.sections[x]) : Q (s.testHead k).sections[x] := by
  by_cases ht : s.heads[k].state.testable
  · obtain ⟨v, htest, ⟨hsections, -, -, -, htime⟩, -⟩ := State.testHead_enters ht
    rw [htest]
    exact State.deliver_keeps (n := headSource k) (e := .inTest) rfl (fun r _ w hr => hstep _ r w hr) (htime.trans hnow) (by rw [hsections]; exact hQ)
  · rw [State.testHead_kept ht]
    exact hQ

/-- What a head's test brings about at a section the head bounds. -/
theorem State.testHead_section_reaches {P Q : SecRun → Prop} {now : Time} {k : Fin 32}
    (hfirst : ∀ r w, P r → Q { SecRun.disturbing r .headTest (headSource k) now with warning := w })
    (hstep : ∀ n r w, Q r → Q { SecRun.disturbing r .headTest n now with warning := w }) {s : State} (hnow : s.partTime = now)
    (ht : s.heads[k].state.testable) {x : Fin 24} (hb : s.bounds (headSource k) x) (hP : P s.sections[x]) :
    Q (s.testHead k).sections[x] := by
  obtain ⟨v, htest, ⟨hsections, -, -, htables, htime⟩, -⟩ := State.testHead_enters ht
  rw [htest]
  exact State.deliver_reaches (n := headSource k) (e := .inTest) (P := P) rfl (fun r _ w hr => hfirst r w hr) (fun r _ w hr => hstep _ r w hr)
    (htime.trans hnow) ((State.bounds_congr htables _ x).mpr hb) (by rw [hsections]; exact hP)

/-! ## The addressed heads one at a time -/

section
variable {v : State} {l : List (Fin 32)}

theorem State.foldTest_enters (hsorted : l.Pairwise (· < ·)) {k : Fin 32} (hk : k ∈ l) (ht : v.heads[k].state.testable) :
    (l.foldl State.testHead v).heads[k] = v.heads[k].enterTest ∧ (l.foldl State.testHead v).relayOut[k] = v.testedRelay k := by
  refine foldl_reaches_at
    (P := fun t : State => t.tables = v.tables ∧ t.heads[k] = v.heads[k] ∧ t.relayOut[k] = v.relayOut[k])
    (Q := fun t : State => t.heads[k] = v.heads[k].enterTest ∧ t.relayOut[k] = v.testedRelay k) l hsorted hk
    (fun t j _ hj hP => ?_) (fun t hP => ?_) (fun t j _ hj hQ => ?_) v ⟨rfl, rfl, rfl⟩
  · obtain ⟨hheads, hrelay⟩ := t.testHead_other hj.ne'
    rw [State.testHead_tables, hheads, hrelay]
    exact hP
  · obtain ⟨htables, hhead, hrelay⟩ := hP
    obtain ⟨hself, hself'⟩ := State.testHead_self (s := t) (by rw [hhead]; exact ht)
    rw [hself, hself', State.testedRelay, State.testedRelay, hhead, hrelay, htables]
    exact ⟨rfl, rfl⟩
  · obtain ⟨hheads, hrelay⟩ := t.testHead_other hj.ne
    rw [hheads, hrelay]
    exact hQ

theorem State.foldTest_kept {k : Fin 32} (hk : ¬(k ∈ l ∧ v.heads[k].state.testable)) :
    (l.foldl State.testHead v).heads[k] = v.heads[k] ∧ (l.foldl State.testHead v).relayOut[k] = v.relayOut[k] := by
  refine foldl_preserves (fun t : State => t.heads[k] = v.heads[k] ∧ t.relayOut[k] = v.relayOut[k]) _ l
    (fun t j hj hP => ?_) v ⟨rfl, rfl⟩
  by_cases hjk : k = j
  · subst hjk
    rw [State.testHead_kept fun ht => hk ⟨hj, by rw [← hP.1]; exact ht⟩]
    exact hP
  · obtain ⟨hheads, hrelay⟩ := t.testHead_other hjk
    rw [hheads, hrelay]
    exact hP

/-- Section `x` and the heads that bound it stand as in `v`. -/
def State.Untouched (v t : State) (x : Fin 24) : Prop :=
  t.tables = v.tables ∧ t.partTime = v.partTime ∧ t.sections[x] = v.sections[x] ∧
    ∀ j : Fin 32, v.bounds (headSource j) x → t.heads[j] = v.heads[j]

theorem State.Untouched.testHead {t : State} {x : Fin 24} (h : v.Untouched t x) {j : Fin 32}
    (hj : v.heads[j].state.testable → ¬v.bounds (headSource j) x) : v.Untouched (t.testHead j) x := by
  obtain ⟨htables, htime, hsection, hheads⟩ := id h
  by_cases hb : v.bounds (headSource j) x
  · have hno : ¬t.heads[j].state.testable := by
      rw [hheads j hb]
      exact fun ht => hj ht hb
    rw [State.testHead_kept hno]
    exact h
  · refine ⟨by rw [State.testHead_tables, htables], by rw [State.testHead_partTime, htime], ?_, fun i hi => ?_⟩
    · rw [State.testHead_section_other (mt (State.bounds_congr htables _ x).mp hb), hsection]
    · have hne : i ≠ j := fun he => hb (he ▸ hi)
      rw [(t.testHead_other hne).1, hheads i hi]

theorem State.foldTest_section_kept {x : Fin 24}
    (h : ∀ k, k ∈ l → v.heads[k].state.testable → ¬v.bounds (headSource k) x) :
    (l.foldl State.testHead v).sections[x] = v.sections[x] := by
  obtain ⟨-, -, hsection, -⟩ := foldl_preserves (fun t => v.Untouched t x) _ l
    (fun t j hj hP => State.Untouched.testHead hP (h j hj)) v ⟨rfl, rfl, rfl, fun _ _ => rfl⟩
  exact hsection

/-- What the tests bring about at a section, from the lowest head under test that bounds it. -/
theorem State.foldTest_section_reaches {Q : SecRun → Prop} (hsorted : l.Pairwise (· < ·)) {k : Fin 32} (hk : k ∈ l)
    (ht : v.heads[k].state.testable) {x : Fin 24} (hb : v.bounds (headSource k) x)
    (hleast : ∀ j, j ∈ l → j < k → v.heads[j].state.testable → ¬v.bounds (headSource j) x)
    (hfirst : ∀ w, Q { SecRun.disturbing v.sections[x] .headTest (headSource k) v.partTime with warning := w })
    (hstep : ∀ n r w, Q r → Q { SecRun.disturbing r .headTest n v.partTime with warning := w }) :
    Q (l.foldl State.testHead v).sections[x] := by
  refine (foldl_reaches_at (P := fun t => v.Untouched t x) (Q := fun t : State => t.partTime = v.partTime ∧ Q t.sections[x])
    l hsorted hk (fun t j hj hlt hP => State.Untouched.testHead hP (hleast j hj hlt)) (fun t hP => ?_) (fun t j _ _ hQ => ?_)
    v ⟨rfl, rfl, rfl, fun _ _ => rfl⟩).2
  · obtain ⟨htables, htime, hsection, hheads⟩ := hP
    refine ⟨(State.testHead_partTime ..).trans htime,
      State.testHead_section_reaches (P := fun r => r = v.sections[x]) ?_ hstep htime (by rw [hheads k hb]; exact ht)
        ((State.bounds_congr htables _ x).mpr hb) hsection⟩
    rintro r w rfl
    exact hfirst w
  · exact ⟨(State.testHead_partTime ..).trans hQ.1, State.testHead_section_keeps hstep hQ.1 j hQ.2⟩

/-- A section OFF or DISTURBED under the tests: only its repeat flag, in DISTURBED, and its warning (R83). -/
theorem State.foldTest_disturbed (hsorted : l.Pairwise (· < ·)) {k : Fin 32} (hk : k ∈ l)
    (ht : v.heads[k].state.testable) {x : Fin 24} (hb : v.bounds (headSource k) x)
    (hleast : ∀ j, j ∈ l → j < k → v.heads[j].state.testable → ¬v.bounds (headSource j) x)
    (hst : v.sections[x].state = .off ∨ v.sections[x].state = .disturbed) :
    ∃ w, (l.foldl State.testHead v).sections[x] = { v.sections[x] with
      repeated := v.sections[x].repeated || v.sections[x].state == .disturbed, warning := w } := by
  refine State.foldTest_section_reaches (Q := fun r => ∃ w, r = { v.sections[x] with
    repeated := v.sections[x].repeated || v.sections[x].state == .disturbed, warning := w }) hsorted hk ht hb hleast
    (fun w => ⟨w, by rw [SecRun.disturbing_still hst]⟩) ?_
  rintro n r w ⟨w', rfl⟩
  have hagain := SecRun.disturbing_still (r := { v.sections[x] with
    repeated := v.sections[x].repeated || v.sections[x].state == .disturbed, warning := w' }) hst .headTest n v.partTime
  dsimp only at hagain
  rw [Bool.or_assoc, Bool.or_self] at hagain
  exact ⟨w, by rw [hagain]⟩

/-- Any other section under the tests: DISTURBED by the lowest head under test that bounds it (R82, R94). -/
theorem State.foldTest_counting (hsorted : l.Pairwise (· < ·)) {k : Fin 32} (hk : k ∈ l)
    (ht : v.heads[k].state.testable) {x : Fin 24} (hb : v.bounds (headSource k) x)
    (hleast : ∀ j, j ∈ l → j < k → v.heads[j].state.testable → ¬v.bounds (headSource j) x)
    (hoff : v.sections[x].state ≠ .off) (hdist : v.sections[x].state ≠ .disturbed) :
    ∃ rep w, (l.foldl State.testHead v).sections[x] =
      { v.sections[x].disturb .headTest (some (headSource k)) v.partTime with repeated := rep, warning := w } := by
  refine State.foldTest_section_reaches (Q := fun r => ∃ rep w, r =
    { v.sections[x].disturb .headTest (some (headSource k)) v.partTime with repeated := rep, warning := w })
    hsorted hk ht hb hleast (fun w => ⟨false, w, ?_⟩) ?_
  · rw [SecRun.disturbing_other hoff hdist]
    rfl
  · rintro n r w ⟨rep, w', rfl⟩
    exact ⟨true, w, rfl⟩

end

/-! ## TEST_START whole -/

theorem State.addressed_congr {s t : State} (h : t.tables = s.tables) (node : Byte) : t.addressed node = s.addressed node := by
  rw [State.addressed, State.addressed, h]

/-- In RUN a TEST_START is judged by the addressed heads (R151, R152). -/
theorem State.intercept_heard {s : State} (h : s.mode = .run) (f : Frame) (node : Byte) :
    (s.heard f).intercept 0x01 node = (s.addressed node).find? s.blocks := by
  have hblocks : (s.heard f).blocks = s.blocks := by
    funext k
    simp only [State.blocks, State.heard_tables, State.heard_sections]
  rw [State.intercept, if_pos ⟨h, rfl⟩, hblocks, State.addressed_congr (State.heard_tables s f)]

/-- In RUN a queued TEST_START tests the heads it addresses, one at a time (R153). -/
theorem State.testHeads_run {s : State} (h : s.mode = .run) {f : Frame} (hcode : byteAt f.payload 0 = 0x01) :
    s.testHeads f = (s.addressed f.hdr.dstNode).foldl State.testHead s := if_pos ⟨h, hcode⟩

/-- Settles O28: the least blocking head refuses; else every addressed head is tested in turn. -/
theorem testStartIsIntercepted : Obligations.TestStartIsIntercepted := by
  unfold Obligations.TestStartIsIntercepted
  intro s hdr params hl hfor hnode hmode hmay hroute hspace u queued addressed blocks enters
  have hexec : exec (.testStart hdr params) s = .next (u.headOrder (orderOperand hdr 0x01 params)) :=
    State.order_arrives hfor hnode 0x01 params hl
  have hmem (k : Fin 32) : k ∈ s.addressed hdr.dstNode ↔ addressed k := s.mem_addressed hdr.dstNode k
  have hsorted := s.addressed_sorted hdr.dstNode
  have hblocks (k : Fin 32) : blocks k ↔ k ∈ s.addressed hdr.dstNode ∧ s.blocks k = true := by
    rw [hmem, State.blocks_iff]
  have hjudged : u.judgeOrder (orderOperand hdr 0x01 params) = ((s.addressed hdr.dstNode).find? s.blocks).map fun k =>
      ⟨.testBlocked, [hdr.dstNode, BitVec.ofNat 8 k.val]⟩ := by
    rw [← State.intercept_heard hmode (orderOperand hdr 0x01 params)]
    exact (State.judgeOrder_routed (s := u) (f := orderOperand hdr 0x01 params) hmay hroute).trans
      (if_neg (not_le.mpr hspace))
  rw [hexec]
  refine ⟨fun k hk hleast => ?_, fun hno => ?_⟩
  · have hfind : (s.addressed hdr.dstNode).find? s.blocks = some k := by
      refine find?_least hsorted ((hblocks k).mp hk).1 ((hblocks k).mp hk).2 fun j hj hlt => ?_
      rw [← Bool.not_eq_true]
      exact fun hb => hleast j hlt ((hblocks j).mpr ⟨hj, hb⟩)
    rw [hfind] at hjudged
    rw [State.headOrder_refused hjudged, State.refuseOrder_eq]
    exact ⟨fun hroom => congrArg _ (if_neg (not_le.mpr hroom)), fun hfull => congrArg _ (if_pos hfull)⟩
  · have hfind : (s.addressed hdr.dstNode).find? s.blocks = none :=
      List.find?_eq_none.mpr fun k hk hb => hno k ((hblocks k).mpr ⟨hk, hb⟩)
    rw [hfind] at hjudged
    have haddressed : queued.addressed hdr.dstNode = s.addressed hdr.dstNode := State.addressed_congr rfl hdr.dstNode
    have htested : u.headOrder (orderOperand hdr 0x01 params) = (s.addressed hdr.dstNode).foldl State.testHead queued := by
      rw [← haddressed]
      exact (State.headOrder_queued hjudged).trans (State.testHeads_run (s := queued) hmode rfl)
    rw [htested]
    have henters {k : Fin 32} (hk : enters k) : k ∈ s.addressed hdr.dstNode := (hmem k).mpr hk.1
    refine ⟨_, rfl, foldl_keeps State.butTrack _ State.testHead_butTrack _ _, ?_, fun k hk => ?_, fun k hk => ?_,
      fun x hx => ?_, fun x k hk hb hleast => ⟨fun hst => ?_, fun hoff hdist => ?_⟩⟩
    · exact foldl_keeps State.channels _ State.testHead_channels _ queued
    · exact State.foldTest_enters (v := queued) hsorted (henters hk) hk.2
    · exact State.foldTest_kept (v := queued) fun ⟨hin, ht⟩ => hk ⟨(hmem k).mp hin, ht⟩
    · exact State.foldTest_section_kept (v := queued) fun k hin ht => hx k ⟨(hmem k).mp hin, ht⟩
    · obtain ⟨w, hw⟩ := State.foldTest_disturbed (v := queued) hsorted (henters hk) hk.2 hb
        (fun j hin hlt ht => hleast j hlt ⟨(hmem j).mp hin, ht⟩) hst
      rw [hw]
      rfl
    · obtain ⟨rep, w, hw⟩ := State.foldTest_counting (v := queued) hsorted (henters hk) hk.2 hb
        (fun j hin hlt ht => hleast j hlt ⟨(hmem j).mp hin, ht⟩) hoff hdist
      rw [hw]
      rfl

end Sys2Proof.Machine
end

section
/-! SUPPORT. An accepted restore (R110 to R112): the boundary sources readmitted one at a time, what that makes of the
records and of every section, and the section's own way to RESTORE_WAIT, SWEEP or CLEAR. -/

namespace Sys2Proof.Machine

/-! ## The readmission of one source (R39, R111, R136) -/

/-- FAULTY or LOST: the states a readmission ends (R111). -/
def SourceState.broken (st : SourceState) : Prop := st = .faulty ∨ st = .lost

theorem source_cases (n : Fin 40) : (∃ k, n = headSource k) ∨ ∃ c, n = channelSource c := by
  cases h : sourceHead n with
  | some k => exact .inl ⟨k, (sourceHead_eq_some.mp h).symm⟩
  | none => exact .inr ⟨_, (sourceHead_eq_none.mp h).symm⟩

section
variable {s : State}

theorem State.readmitHead_relayOut {k : Fin 32} (h : s.heads[k].state.broken) :
    (s.readmitHead k).relayOut = upd s.relayOut k (s.relayOut[k].returned s.tables.heads[k].relayOut) := by
  rw [State.readmitHead_eq h, State.deliver_relayOut]
  rfl

/-- The records of a broken head, readmitted. -/
theorem State.readmitBroken_head_self {k : Fin 32} (h : s.heads[k].state.broken) :
    (s.readmitBroken (headSource k)).heads[k] = s.heads[k].enterAwaiting ∧
      (s.readmitBroken (headSource k)).relayOut[k] = s.relayOut[k].returned s.tables.heads[k].relayOut := by
  rw [State.readmitBroken_head h, State.readmitHead_heads, State.readmitHead_relayOut h, upd_get_self, upd_get_self]
  exact ⟨rfl, rfl⟩

/-- The records of a head that another source's readmission leaves. -/
theorem State.readmitBroken_head_other (s : State) {n : Fin 40} {k : Fin 32} (hne : n ≠ headSource k) :
    (s.readmitBroken n).heads[k] = s.heads[k] ∧ (s.readmitBroken n).relayOut[k] = s.relayOut[k] := by
  by_cases hb : (s.sourceState n).broken
  · rcases source_cases n with ⟨j, rfl⟩ | ⟨c, rfl⟩
    · have hjk : j ≠ k := fun he => hne (he ▸ rfl)
      rw [State.sourceState_head] at hb
      rw [State.readmitBroken_head hb, State.readmitHead_heads, State.readmitHead_relayOut hb, upd_get_ne _ hjk,
        upd_get_ne _ hjk]
      exact ⟨rfl, rfl⟩
    · rw [State.sourceState_channel] at hb
      rw [State.readmitBroken_channel hb, State.readmitChannel_heads, State.readmitChannel, State.deliver_relayOut]
      exact ⟨rfl, rfl⟩
  · rw [State.readmitBroken_kept hb]
    exact ⟨rfl, rfl⟩

/-- The record of a broken channel, readmitted. -/
theorem State.readmitBroken_channel_self {c : Fin 8} (h : s.channels[c].state.broken) :
    (s.readmitBroken (channelSource c)).channels[c] = s.channels[c].enterAwaiting := by
  rw [State.readmitBroken_channel h, State.readmitChannel_channels, upd_get_self]

/-- The record of a channel that another source's readmission leaves. -/
theorem State.readmitBroken_channel_other (s : State) {n : Fin 40} {c : Fin 8} (hne : n ≠ channelSource c) :
    (s.readmitBroken n).channels[c] = s.channels[c] := by
  by_cases hb : (s.sourceState n).broken
  · rcases source_cases n with ⟨k, rfl⟩ | ⟨d, rfl⟩
    · rw [State.sourceState_head] at hb
      rw [State.readmitBroken_head hb, State.readmitHead_channels]
    · have hdc : d ≠ c := fun he => hne (he ▸ rfl)
      rw [State.sourceState_channel] at hb
      rw [State.readmitBroken_channel hb, State.readmitChannel_channels, upd_get_ne _ hdc]
  · rw [State.readmitBroken_kept hb]

/-- The state of a source after a readmission of it or of another. -/
theorem State.readmitBroken_sourceState_other (s : State) {n m : Fin 40} (hne : n ≠ m) :
    (s.readmitBroken n).sourceState m = s.sourceState m := by
  rcases source_cases m with ⟨k, rfl⟩ | ⟨c, rfl⟩
  · rw [State.sourceState_head, State.sourceState_head, (s.readmitBroken_head_other hne).1]
  · rw [State.sourceState_channel, State.sourceState_channel, s.readmitBroken_channel_other hne]

theorem State.readmitBroken_sourceState_self {n : Fin 40} (h : (s.sourceState n).broken) :
    (s.readmitBroken n).sourceState n = .awaiting := by
  rcases source_cases n with ⟨k, rfl⟩ | ⟨c, rfl⟩
  · rw [State.sourceState_head] at h ⊢
    rw [(State.readmitBroken_head_self h).1]
    rfl
  · rw [State.sourceState_channel] at h ⊢
    rw [State.readmitBroken_channel_self h]
    rfl

/-- A readmission makes no source NORMAL. -/
theorem State.readmitBroken_not_normal {m : Fin 40} (h : s.sourceState m ≠ .normal) (n : Fin 40) :
    (s.readmitBroken n).sourceState m ≠ .normal := by
  by_cases hne : n = m
  · subst hne
    by_cases hb : (s.sourceState n).broken
    · rw [State.readmitBroken_sourceState_self hb]
      decide
    · rw [State.readmitBroken_kept hb]
      exact h
  · rw [State.readmitBroken_sourceState_other s hne]
    exact h

/-- A readmission reaches the sections as the event alone (R97). -/
theorem State.readmitBroken_delivers {n : Fin 40} (h : (s.sourceState n).broken) :
    ∃ v : State, s.readmitBroken n = v.deliver n .readmitted ∧ s.SameSections v := by
  rcases source_cases n with ⟨k, rfl⟩ | ⟨c, rfl⟩
  · rw [State.sourceState_head] at h
    exact ⟨_, (State.readmitBroken_head h).trans (State.readmitHead_eq h), rfl, rfl, rfl, rfl, rfl⟩
  · rw [State.sourceState_channel] at h
    exact ⟨_, State.readmitBroken_channel h, rfl, rfl, rfl, rfl, rfl⟩

/-! ## The sections of a readmitted source (R97) -/

/-- A readmission at a section that cannot count. -/
theorem SecRun.readmitted_still {r : SecRun} (h : r.state.counting = false) (n : Fin 40) (b : Bool) (now : Time) :
    r.sourceEvent n .readmitted b now = r := if_neg (by rw [h]; exact Bool.false_ne_true)

/-- A readmission at a counting section. -/
theorem SecRun.readmitted_counting {r : SecRun} (h : r.state.counting = true) (n : Fin 40) (b : Bool) (now : Time) :
    r.sourceEvent n .readmitted b now = r.disturb .readmit (some n) now := if_pos h

theorem State.readmitBroken_section_other {n : Fin 40} {x : Fin 24} (h : ¬s.bounds n x) :
    (s.readmitBroken n).sections[x] = s.sections[x] := by
  by_cases hb : (s.sourceState n).broken
  · obtain ⟨v, hv, hsections, -, -, htables, -⟩ := State.readmitBroken_delivers hb
    rw [hv, State.deliver_other _ _ _ (mt (State.bounds_congr htables _ x).mp h), hsections]
  · rw [State.readmitBroken_kept hb]

/-- What every readmission keeps of a section's record. -/
theorem State.readmitBroken_section_keeps {Q : SecRun → Prop} {now : Time}
    (hstep : ∀ n r b w, Q r → Q { SecRun.sourceEvent r n .readmitted b now with warning := w }) (hnow : s.partTime = now)
    (n : Fin 40) {x : Fin 24} (hQ : Q s.sections[x]) : Q (s.readmitBroken n).sections[x] := by
  by_cases hb : (s.sourceState n).broken
  · obtain ⟨v, hv, hsections, -, -, -, htime⟩ := State.readmitBroken_delivers hb
    rw [hv]
    exact State.deliver_keeps rfl (hstep n) (htime.trans hnow) (by rw [hsections]; exact hQ)
  · rw [State.readmitBroken_kept hb]
    exact hQ

/-- The section waits on its restore: its timer runs as `t`, and it is owed. -/
def State.Waiting (s : State) (k : Fin 24) (t : Timer) : Prop :=
  s.sections[k].state = .restoreWait ∧ s.restoreTimers[k] = t ∧ s.notice.owed[k] = true

theorem State.Waiting.putSection {k : Fin 24} {t : Timer} (h : s.Waiting k t) (j : Fin 24) {r : SecRun}
    (hr : s.sections[j].state = .restoreWait → r.state = .restoreWait) : (s.putSection j r).Waiting k t := by
  obtain ⟨hstate, htimer, howed⟩ := h
  refine ⟨?_, ?_, ?_⟩
  · rw [State.putSection_get]
    split
    · next hjk => exact hr (hjk ▸ hstate)
    · exact hstate
  · rw [State.putSection_restoreTimers, if_neg fun hc => hc.2 (hr hc.1)]
    exact htimer
  · rw [State.putSection_owed]
    split
    · rw [upd_get, howed, ite_self]
    · exact howed

theorem State.Waiting.judgeWarning {k : Fin 24} {t : Timer} (h : s.Waiting k t) (j : Fin 24) :
    (s.judgeWarning j).Waiting k t := by
  unfold State.judgeWarning
  exact h.putSection j id

/-- A readmission of any source leaves a section that waits on its restore waiting (R97). -/
theorem State.Waiting.sourceEventAt {k : Fin 24} {t : Timer} (h : s.Waiting k t) (n : Fin 40) (j : Fin 24) :
    (s.sourceEventAt n .readmitted j).Waiting k t := by
  have hput : (s.putSection j (s.sections[j].sourceEvent n .readmitted (s.allSupervised j) s.partTime)).Waiting k t := by
    refine h.putSection j fun hw => ?_
    have hstill : s.sections[j].state.counting = false := by rw [hw]; rfl
    rw [SecRun.readmitted_still hstill]
    exact hw
  unfold State.sourceEventAt
  dsimp only
  rw [if_neg (by decide)]
  exact hput.judgeWarning j

theorem State.Waiting.readmitBroken {k : Fin 24} {t : Timer} (h : s.Waiting k t) (n : Fin 40) :
    (s.readmitBroken n).Waiting k t := by
  by_cases hb : (s.sourceState n).broken
  · obtain ⟨v, hv, hsections, htimers, hnotice, -⟩ := State.readmitBroken_delivers hb
    have hwait : v.Waiting k t := by
      rw [State.Waiting, hsections, htimers, hnotice]
      exact h
    rw [hv]
    exact State.deliver_preserves (P := fun u => u.Waiting k t) (fun u j hu => State.Waiting.sourceEventAt hu n j) v hwait
  · rw [State.readmitBroken_kept hb]
    exact h

end

/-! ## The boundary sources readmitted one at a time (R110 step 3) -/

section
variable {v : State} {l : List (Fin 40)}

theorem State.foldReadmit_head {k : Fin 32} (hk : headSource k ∈ l) (hb : v.heads[k].state.broken) :
    (l.foldl State.readmitBroken v).heads[k] = v.heads[k].enterAwaiting ∧
      (l.foldl State.readmitBroken v).relayOut[k] = v.relayOut[k].returned v.tables.heads[k].relayOut := by
  refine foldl_reaches
    (P := fun t : State => t.tables = v.tables ∧ t.heads[k] = v.heads[k] ∧ t.relayOut[k] = v.relayOut[k])
    (Q := fun t : State => t.heads[k] = v.heads[k].enterAwaiting ∧
      t.relayOut[k] = v.relayOut[k].returned v.tables.heads[k].relayOut) (hit := fun n => n = headSource k) l
    (fun t n _ hn hP => ?_) (fun t n _ hn hP => ?_) (fun t n _ hQ => ?_) ⟨_, hk, rfl⟩ v ⟨rfl, rfl, rfl⟩
  · obtain ⟨hhead, hrelay⟩ := t.readmitBroken_head_other hn
    rw [State.readmitBroken_tables, hhead, hrelay]
    exact hP
  · obtain ⟨htables, hhead, hrelay⟩ := hP
    subst hn
    obtain ⟨hself, hself'⟩ := State.readmitBroken_head_self (s := t) (by rw [hhead]; exact hb)
    rw [hself, hself', hhead, hrelay, htables]
    exact ⟨rfl, rfl⟩
  · by_cases hn : n = headSource k
    · have hfixed : ¬(t.sourceState n).broken := by
        rw [hn, State.sourceState_head, hQ.1]
        rintro (h | h) <;> cases h
      rw [State.readmitBroken_kept hfixed]
      exact hQ
    · obtain ⟨hhead, hrelay⟩ := t.readmitBroken_head_other hn
      rw [hhead, hrelay]
      exact hQ

theorem State.foldReadmit_head_kept {k : Fin 32} (hk : ¬(headSource k ∈ l ∧ v.heads[k].state.broken)) :
    (l.foldl State.readmitBroken v).heads[k] = v.heads[k] ∧ (l.foldl State.readmitBroken v).relayOut[k] = v.relayOut[k] := by
  refine foldl_preserves (fun t : State => t.heads[k] = v.heads[k] ∧ t.relayOut[k] = v.relayOut[k]) _ l
    (fun t n hn hP => ?_) v ⟨rfl, rfl⟩
  by_cases hnk : n = headSource k
  · have hfixed : ¬(t.sourceState n).broken := by
      rw [hnk, State.sourceState_head, hP.1]
      exact fun hb => hk ⟨hnk ▸ hn, hb⟩
    rw [State.readmitBroken_kept hfixed]
    exact hP
  · obtain ⟨hhead, hrelay⟩ := t.readmitBroken_head_other hnk
    rw [hhead, hrelay]
    exact hP

theorem State.foldReadmit_channel {c : Fin 8} (hc : channelSource c ∈ l) (hb : v.channels[c].state.broken) :
    (l.foldl State.readmitBroken v).channels[c] = v.channels[c].enterAwaiting := by
  refine foldl_reaches (P := fun t : State => t.channels[c] = v.channels[c])
    (Q := fun t : State => t.channels[c] = v.channels[c].enterAwaiting) (hit := fun n => n = channelSource c) l
    (fun t n _ hn hP => (t.readmitBroken_channel_other hn).trans hP) (fun t n _ hn hP => ?_) (fun t n _ hQ => ?_)
    ⟨_, hc, rfl⟩ v rfl
  · subst hn
    rw [State.readmitBroken_channel_self (by rw [hP]; exact hb), hP]
  · by_cases hn : n = channelSource c
    · have hfixed : ¬(t.sourceState n).broken := by
        rw [hn, State.sourceState_channel, hQ]
        rintro (h | h) <;> cases h
      rw [State.readmitBroken_kept hfixed]
      exact hQ
    · exact (t.readmitBroken_channel_other hn).trans hQ

theorem State.foldReadmit_channel_kept {c : Fin 8} (hc : ¬(channelSource c ∈ l ∧ v.channels[c].state.broken)) :
    (l.foldl State.readmitBroken v).channels[c] = v.channels[c] := by
  refine foldl_preserves (fun t : State => t.channels[c] = v.channels[c]) _ l (fun t n hn hP => ?_) v rfl
  by_cases hnc : n = channelSource c
  · have hfixed : ¬(t.sourceState n).broken := by
      rw [hnc, State.sourceState_channel, hP]
      exact fun hb => hc ⟨hnc ▸ hn, hb⟩
    rw [State.readmitBroken_kept hfixed]
    exact hP
  · exact (t.readmitBroken_channel_other hnc).trans hP

/-- Section `x` and the sources that bound it stand as in `v`. -/
def State.Standing (v t : State) (x : Fin 24) : Prop :=
  t.tables = v.tables ∧ t.partTime = v.partTime ∧ t.sections[x] = v.sections[x] ∧
    ∀ n, v.bounds n x → t.sourceState n = v.sourceState n

theorem State.Standing.readmitBroken {t : State} {x : Fin 24} (h : v.Standing t x) {n : Fin 40}
    (hn : (v.sourceState n).broken → ¬v.bounds n x) : v.Standing (t.readmitBroken n) x := by
  obtain ⟨htables, htime, hsection, hstates⟩ := id h
  by_cases hb : v.bounds n x
  · have hno : ¬(t.sourceState n).broken := by
      rw [hstates n hb]
      exact fun hbroken => hn hbroken hb
    rw [State.readmitBroken_kept hno]
    exact h
  · refine ⟨by rw [State.readmitBroken_tables, htables], by rw [State.readmitBroken_partTime, htime], ?_, fun m hm => ?_⟩
    · rw [State.readmitBroken_section_other (mt (State.bounds_congr htables _ x).mp hb), hsection]
    · have hne : n ≠ m := fun he => hb (he ▸ hm)
      rw [t.readmitBroken_sourceState_other hne, hstates m hm]

theorem State.foldReadmit_section_kept {x : Fin 24} (h : ∀ n, n ∈ l → (v.sourceState n).broken → ¬v.bounds n x) :
    (l.foldl State.readmitBroken v).sections[x] = v.sections[x] := by
  obtain ⟨-, -, hsection, -⟩ := foldl_preserves (fun t => v.Standing t x) _ l
    (fun t n hn hP => State.Standing.readmitBroken hP (h n hn)) v ⟨rfl, rfl, rfl, fun _ _ => rfl⟩
  exact hsection

/-- A section that cannot count: only its warning may move (R97, R100). -/
theorem State.foldReadmit_still {x : Fin 24} (hst : v.sections[x].state.counting = false) :
    ∃ w, (l.foldl State.readmitBroken v).sections[x] = { v.sections[x] with warning := w } := by
  have hstep (n : Fin 40) (r : SecRun) (b w : Bool) (hQ : ∃ w, r = { v.sections[x] with warning := w }) :
      ∃ w', { SecRun.sourceEvent r n .readmitted b v.partTime with warning := w } =
        { v.sections[x] with warning := w' } := by
    obtain ⟨w₀, rfl⟩ := hQ
    have hstill := SecRun.readmitted_still (r := { v.sections[x] with warning := w₀ }) hst n b v.partTime
    exact ⟨w, by rw [hstill]⟩
  refine (foldl_preserves (fun t : State => t.partTime = v.partTime ∧
    ∃ w, t.sections[x] = { v.sections[x] with warning := w }) _ l (fun t n _ ht => ?_) v ⟨rfl, _, rfl⟩).2
  exact ⟨(State.readmitBroken_partTime ..).trans ht.1,
    State.readmitBroken_section_keeps (Q := fun r => ∃ w, r = { v.sections[x] with warning := w }) hstep ht.1 n ht.2⟩

/-- A counting section with a broken source among those readmitted is DISTURBED by READMIT, its count kept (R97). -/
theorem State.foldReadmit_counting {x : Fin 24} {n : Fin 40} (hn : n ∈ l) (hbroken : (v.sourceState n).broken)
    (hb : v.bounds n x) (hst : v.sections[x].state.counting = true) :
    let r := (l.foldl State.readmitBroken v).sections[x]
    r.state = .disturbed ∧ r.cause = some .readmit ∧ r.count = v.sections[x].count := by
  have hagain (m : Fin 40) (r : SecRun) (b w : Bool)
      (hQ : r.state = .disturbed ∧ r.cause = some .readmit ∧ r.count = v.sections[x].count) :
      let r' : SecRun := { SecRun.sourceEvent r m .readmitted b v.partTime with warning := w }
      r'.state = .disturbed ∧ r'.cause = some .readmit ∧ r'.count = v.sections[x].count := by
    rw [SecRun.readmitted_still (by rw [hQ.1]; rfl)]
    exact hQ
  refine (foldl_reaches (P := fun t => v.Standing t x)
    (Q := fun t : State => t.partTime = v.partTime ∧ t.sections[x].state = .disturbed ∧
      t.sections[x].cause = some .readmit ∧ t.sections[x].count = v.sections[x].count)
    (hit := fun m => (v.sourceState m).broken ∧ v.bounds m x) l
    (fun t m _ hm hP => State.Standing.readmitBroken hP fun h1 h2 => hm ⟨h1, h2⟩) (fun t m _ hm hP => ?_)
    (fun t m _ hQ => ⟨(State.readmitBroken_partTime ..).trans hQ.1, State.readmitBroken_section_keeps
      (Q := fun r => r.state = .disturbed ∧ r.cause = some .readmit ∧ r.count = v.sections[x].count) hagain hQ.1 m hQ.2⟩)
    ⟨n, hn, hbroken, hb⟩ v ⟨rfl, rfl, rfl, fun _ _ => rfl⟩).2
  obtain ⟨htables, htime, hsection, hstates⟩ := hP
  obtain ⟨u, hu, hsections, -, -, htables', htime'⟩ :=
    State.readmitBroken_delivers (s := t) (n := m) (by rw [hstates m hm.2]; exact hm.1)
  refine ⟨(State.readmitBroken_partTime ..).trans htime, ?_⟩
  rw [hu]
  refine State.deliver_reaches (P := fun r => r = v.sections[x])
    (Q := fun r => r.state = .disturbed ∧ r.cause = some .readmit ∧ r.count = v.sections[x].count) rfl ?_ (hagain m)
    (htime'.trans htime) ((State.bounds_congr (htables'.trans htables) _ x).mpr hm.2) (by rw [hsections, hsection])
  rintro r b w rfl
  rw [SecRun.readmitted_counting hst]
  exact ⟨rfl, rfl, rfl⟩

end

end Sys2Proof.Machine
end

section
/-! SUPPORT. A restore order or a completed activation accepted (R107, R110 to R112): the order's checks, the record
cleared, the sources readmitted, and the way on. -/

namespace Sys2Proof.Machine

/-! ## The checks, passed (R107) -/

/-- A heard frame leaves every check of a restore as it stood. -/
theorem State.heard_restorable (s : State) (f : Frame) (kind : RestoreKind) (k : Fin 24) :
    (s.heard f).restorable kind k ↔ s.restorable kind k := by
  simp only [State.restorable, State.inhibits, State.eligible, State.sensed, State.pinLow, State.drivesLow, State.heard_mode,
    State.heard_tables, State.heard_pins, State.heard_lines, State.heard_sections, State.heard_partTime]

theorem State.judgeRestoreOrder_accepted {s : State} {kind : RestoreKind} {k : Fin 24} (h : s.restorable kind k) :
    s.judgeRestoreOrder kind k.val = .accepted k := by
  obtain ⟨hmode, huse, hinhibits, hstate, htime, heligible⟩ := h
  have hnamed : s.sectionNamed k.val = some k := by
    unfold State.sectionNamed
    rw [dif_pos k.isLt]
    exact if_pos huse
  have hsoon : s.tooSoon k = false := decide_eq_false (not_lt.mpr htime)
  have hdirect : ¬(kind = .direct ∧ (!s.directEligible k) = true) := fun ⟨hkind, hno⟩ => by
    rw [(s.directEligible_iff k).mpr (heligible hkind)] at hno
    cases hno
  have hchecks : s.restoreChecks kind k = none := by
    unfold State.restoreChecks
    rw [if_neg (mt (s.inhibited_iff k).mp hinhibits), hstate, if_neg (by decide), if_neg (by decide), hsoon,
      if_neg Bool.false_ne_true, if_neg hdirect]
  unfold State.judgeRestoreOrder
  rw [hmode, if_neg (by decide), hnamed]
  simp only [hchecks]

/-- What the way on does to the section never takes back that it is owed. -/
theorem State.judgeRestore_owed {s : State} {k : Fin 24} (h : s.notice.owed[k] = true) :
    (s.judgeRestore k).notice.owed[k] = true := by
  unfold State.judgeRestore
  by_cases hgo : s.sections[k].state = .restoreWait ∧ s.allNormal k = true
  · simp only [if_pos hgo, State.putSection_owed]
    split
    · exact upd_get_self ..
    · exact h
  · simp only [if_neg hgo]
    exact h

/-! ## The section taken into its restore (R110 steps 1 and 2) -/

/-- The state with the section's record cleared and its restore timer started, no source readmitted yet. -/
def State.accepting (s : State) (kind : RestoreKind) (k : Fin 24) : State :=
  (s.putSection k (s.sections[k].acceptRestore kind)).setRestoreTimer k (s.restoreTimer k)

theorem State.acceptRestore_eq (s : State) (kind : RestoreKind) (k : Fin 24) : s.acceptRestore kind k =
    ((s.tables.boundarySources k).foldl State.readmitBroken (s.accepting kind k)).judgeRestore k := rfl

section
variable (s : State) (kind : RestoreKind) (k : Fin 24)

theorem State.accepting_butSections : (s.accepting kind k).butSections = s.butSections := State.putSection_butSections ..

theorem State.accepting_tables : (s.accepting kind k).tables = s.tables := State.putSection_tables ..
theorem State.accepting_heads : (s.accepting kind k).heads = s.heads := State.putSection_heads ..
theorem State.accepting_relayOut : (s.accepting kind k).relayOut = s.relayOut := State.putSection_relayOut ..
theorem State.accepting_channels : (s.accepting kind k).channels = s.channels := State.putSection_channels ..

theorem State.accepting_sections :
    (s.accepting kind k).sections = upd s.sections k (s.sections[k].acceptRestore kind) := State.putSection_sections ..

theorem State.accepting_self : (s.accepting kind k).sections[k] = s.sections[k].acceptRestore kind := by
  rw [State.accepting_sections, upd_get_self]

theorem State.accepting_other {x : Fin 24} (h : x ≠ k) : (s.accepting kind k).sections[x] = s.sections[x] := by
  rw [State.accepting_sections, upd_get_ne _ (Ne.symm h)]

theorem State.accepting_sourceState (n : Fin 40) : (s.accepting kind k).sourceState n = s.sourceState n :=
  State.sourceState_congr (s.accepting_heads kind k) (s.accepting_channels kind k) n

theorem State.accepting_bounds (n : Fin 40) (x : Fin 24) : (s.accepting kind k).bounds n x ↔ s.bounds n x :=
  State.bounds_congr (s.accepting_tables kind k) n x

variable {s k}

theorem State.accepting_restoreTimers (h : s.sections[k].state = .disturbed) :
    (s.accepting kind k).restoreTimers = upd s.restoreTimers k (s.restoreTimer k) := by
  rw [State.accepting, State.setRestoreTimer_restoreTimers, State.putSection_restoreTimers, h, if_neg (by simp)]

/-- The section waits on its restore, and is owed for the change (R103, R105). -/
theorem State.accepting_waits (h : s.sections[k].state = .disturbed) : (s.accepting kind k).Waiting k (s.restoreTimer k) := by
  have hreports : s.sections[k].reportable (s.sections[k].acceptRestore kind) = true := by
    rw [SecRun.reportable_iff, h]
    exact .inl (by simp [SecRun.acceptRestore])
  refine ⟨by rw [State.accepting_self]; rfl, by rw [State.accepting_restoreTimers kind h, upd_get_self], ?_⟩
  rw [State.accepting, State.setRestoreTimer_notice, State.putSection_owed, if_pos hreports, upd_get_self]

/-! ## The way on (R112) -/

/-- With every boundary source NORMAL no source is readmitted, and the restore goes on at once. -/
theorem State.acceptRestore_normal (h : ∀ n, s.bounds n k → s.sourceState n = .normal) :
    s.acceptRestore kind k = (s.accepting kind k).putSection k (s.sections[k].acceptRestore kind).restored := by
  have hkept : (s.tables.boundarySources k).foldl State.readmitBroken (s.accepting kind k) = s.accepting kind k := by
    refine foldl_preserves (fun t => t = s.accepting kind k) _ _ (fun t n hn ht => ?_) _ rfl
    rw [ht]
    refine State.readmitBroken_kept ?_
    rw [State.accepting_sourceState, h n ((s.mem_boundarySources k n).mp hn)]
    decide
  have hnormal : (s.accepting kind k).allNormal k = true := by
    rw [State.allNormal_congr (s.accepting_butSections kind k), State.allNormal_iff]
    exact h
  rw [State.acceptRestore_eq, hkept, State.judgeRestore, State.accepting_self]
  exact if_pos ⟨rfl, hnormal⟩

/-- With a boundary source that is not NORMAL the section goes on waiting. -/
theorem State.acceptRestore_waits (h : ¬∀ n, s.bounds n k → s.sourceState n = .normal) :
    s.acceptRestore kind k = (s.tables.boundarySources k).foldl State.readmitBroken (s.accepting kind k) := by
  rw [State.acceptRestore_eq]
  refine if_neg fun ⟨_, hall⟩ => h fun n hn => ?_
  have htables : ((s.tables.boundarySources k).foldl State.readmitBroken (s.accepting kind k)).tables = s.tables :=
    (foldl_keeps State.tables _ State.readmitBroken_tables _ _).trans (s.accepting_tables kind k)
  have hnormal := (State.allNormal_iff _ k).mp hall n ((State.bounds_congr htables n k).mpr hn)
  by_contra hne
  refine foldl_preserves (fun t : State => t.sourceState n ≠ .normal) _ _
    (fun t m _ ht => State.readmitBroken_not_normal ht m) _ ?_ hnormal
  rw [State.accepting_sourceState]
  exact hne

/-! ## The records after an accepted restore -/

/-- The section is owed, whichever way it goes on (R103). -/
theorem State.acceptRestore_owed (h : s.sections[k].state = .disturbed) : (s.acceptRestore kind k).notice.owed[k] = true := by
  have hwait : ((s.tables.boundarySources k).foldl State.readmitBroken (s.accepting kind k)).Waiting k (s.restoreTimer k) :=
    foldl_preserves (fun t : State => t.Waiting k (s.restoreTimer k)) _ _
      (fun t n _ ht => State.Waiting.readmitBroken ht n) _ (State.accepting_waits kind h)
  obtain ⟨-, -, howed⟩ := hwait
  rw [State.acceptRestore_eq]
  exact State.judgeRestore_owed howed

/-- A section that goes on waiting, and its timer (R105, R112). -/
theorem State.acceptRestore_section (h : s.sections[k].state = .disturbed)
    (hno : ¬∀ n, s.bounds n k → s.sourceState n = .normal) :
    (∃ w, (s.acceptRestore kind k).sections[k] = { s.sections[k].acceptRestore kind with warning := w }) ∧
      (s.acceptRestore kind k).restoreTimers[k] = s.restoreTimer k := by
  rw [State.acceptRestore_waits kind hno]
  constructor
  · have hstill := State.foldReadmit_still (v := s.accepting kind k) (l := s.tables.boundarySources k) (x := k)
      (by rw [State.accepting_self]; rfl)
    rw [State.accepting_self] at hstill
    exact hstill
  · obtain ⟨-, htimer, -⟩ := foldl_preserves (fun t : State => t.Waiting k (s.restoreTimer k)) State.readmitBroken
      (s.tables.boundarySources k) (fun t n _ ht => State.Waiting.readmitBroken ht n) _ (State.accepting_waits kind h)
    exact htimer

/-- The records of a broken boundary head, readmitted (R39, R111, R127). -/
theorem State.acceptRestore_head {j : Fin 32} (hb : s.bounds (headSource j) k) (hbroken : s.heads[j].state.broken) :
    (s.acceptRestore kind k).heads[j] = s.heads[j].enterAwaiting ∧
      (s.acceptRestore kind k).relayOut[j] = s.relayOut[j].returned s.tables.heads[j].relayOut := by
  have hfold := State.foldReadmit_head (v := s.accepting kind k) ((s.mem_boundarySources k _).mpr hb)
    (by rw [State.accepting_heads]; exact hbroken)
  rw [State.accepting_heads, State.accepting_relayOut, State.accepting_tables] at hfold
  rw [State.acceptRestore_eq, State.judgeRestore_heads, State.judgeRestore_relayOut]
  exact hfold

theorem State.acceptRestore_head_kept {j : Fin 32} (h : ¬(s.bounds (headSource j) k ∧ s.heads[j].state.broken)) :
    (s.acceptRestore kind k).heads[j] = s.heads[j] ∧ (s.acceptRestore kind k).relayOut[j] = s.relayOut[j] := by
  have hfold := State.foldReadmit_head_kept (v := s.accepting kind k) (l := s.tables.boundarySources k) (k := j)
    (by rw [State.accepting_heads, State.mem_boundarySources]; exact h)
  rw [State.accepting_heads, State.accepting_relayOut] at hfold
  rw [State.acceptRestore_eq, State.judgeRestore_heads, State.judgeRestore_relayOut]
  exact hfold

/-- The record of a broken boundary channel, readmitted (R111, R136). -/
theorem State.acceptRestore_channel {c : Fin 8} (hb : s.bounds (channelSource c) k) (hbroken : s.channels[c].state.broken) :
    (s.acceptRestore kind k).channels[c] = s.channels[c].enterAwaiting := by
  have hfold := State.foldReadmit_channel (v := s.accepting kind k) ((s.mem_boundarySources k _).mpr hb)
    (by rw [State.accepting_channels]; exact hbroken)
  rw [State.accepting_channels] at hfold
  rw [State.acceptRestore_eq, State.judgeRestore_channels]
  exact hfold

theorem State.acceptRestore_channel_kept {c : Fin 8} (h : ¬(s.bounds (channelSource c) k ∧ s.channels[c].state.broken)) :
    (s.acceptRestore kind k).channels[c] = s.channels[c] := by
  have hfold := State.foldReadmit_channel_kept (v := s.accepting kind k) (l := s.tables.boundarySources k) (c := c)
    (by rw [State.accepting_channels, State.mem_boundarySources]; exact h)
  rw [State.accepting_channels] at hfold
  rw [State.acceptRestore_eq, State.judgeRestore_channels]
  exact hfold

section
variable {x : Fin 24} (hx : x ≠ k)
include hx

/-- Another section is as the readmissions leave it. -/
theorem State.acceptRestore_other : (s.acceptRestore kind k).sections[x] =
    ((s.tables.boundarySources k).foldl State.readmitBroken (s.accepting kind k)).sections[x] := by
  rw [State.acceptRestore_eq, State.judgeRestore_other _ hx]

theorem State.acceptRestore_apart (h : ∀ n, s.bounds n k → (s.sourceState n).broken → ¬s.bounds n x) :
    (s.acceptRestore kind k).sections[x] = s.sections[x] := by
  rw [State.acceptRestore_other kind hx, State.foldReadmit_section_kept, State.accepting_other _ _ _ hx]
  intro n hn hbroken
  rw [State.accepting_sourceState] at hbroken
  rw [State.accepting_bounds]
  exact h n ((s.mem_boundarySources k n).mp hn) hbroken

theorem State.acceptRestore_still (h : s.sections[x].state.counting = false) :
    ∃ w, (s.acceptRestore kind k).sections[x] = { s.sections[x] with warning := w } := by
  have hstill := State.foldReadmit_still (v := s.accepting kind k) (l := s.tables.boundarySources k) (x := x)
    (by rw [State.accepting_other _ _ _ hx]; exact h)
  rw [State.accepting_other _ _ _ hx] at hstill
  rw [State.acceptRestore_other kind hx]
  exact hstill

theorem State.acceptRestore_counting {n : Fin 40} (hn : s.bounds n k) (hbroken : (s.sourceState n).broken)
    (hb : s.bounds n x) (h : s.sections[x].state.counting = true) :
    let r := (s.acceptRestore kind k).sections[x]
    r.state = .disturbed ∧ r.cause = some .readmit ∧ r.count = s.sections[x].count := by
  have hcounting := State.foldReadmit_counting (v := s.accepting kind k) (x := x) ((s.mem_boundarySources k n).mpr hn)
    (by rw [State.accepting_sourceState]; exact hbroken) ((s.accepting_bounds kind k n x).mpr hb)
    (by rw [State.accepting_other _ _ _ hx]; exact h)
  rw [State.accepting_other _ _ _ hx] at hcounting
  rw [State.acceptRestore_other kind hx]
  exact hcounting

end

end

/-- A restore order past steps 1 to 5 of R163 whose checks pass is accepted and answered OK. -/
theorem State.restore_acts {s : State} {hdr : Header} (hto : s.toManagement hdr) (hfrom : s.fromInterlocking hdr)
    {kind : RestoreKind} {k : Fin 24} (tag : Byte)
    (h : (s.heard (requestOperand hdr kind.request tag [BitVec.ofNat 8 k.val])).restorable kind k) :
    exec (kind.request.row hdr tag [BitVec.ofNat 8 k.val]) s =
      .next (((s.heard (requestOperand hdr kind.request tag [BitVec.ofNat 8 k.val])).acceptRestore kind k).answered hdr
        kind.request.byte tag ⟨.ok, []⟩) := by
  have hlen : kind.request.lengthIs ([BitVec.ofNat 8 k.val].length + 2) := by cases kind <;> rfl
  have hallowed : s.allowed kind.request hdr := by cases kind <;> exact hfrom
  have hmark : (kind.request == .restart) = false := by cases kind <;> rfl
  have hbyte : (byteAt [BitVec.ofNat 8 k.val] 0).toNat = k.val :=
    (BitVec.toNat_ofNat ..).trans (Nat.mod_eq_of_lt (k.isLt.trans (by decide)))
  have hact (u : State) (hu : u.restorable kind k) :
      u.act kind.request [BitVec.ofNat 8 k.val] = (u.acceptRestore kind k).okay := by
    have hdo : u.act kind.request [BitVec.ofNat 8 k.val] = u.doRestore kind [BitVec.ofNat 8 k.val] := by cases kind <;> rfl
    rw [hdo, State.doRestore, hbyte, State.judgeRestoreOrder_accepted hu]
  have hreq := State.request_acts hto kind.request tag [BitVec.ofNat 8 k.val] (show 1 ≤ 62 by decide) hlen hallowed
  rw [hact _ h, hmark] at hreq
  exact hreq

/-- Settles O46: the order's way to its acceptance, then the acceptance record by record. -/
theorem restoresAreAccepted : Obligations.RestoresAreAccepted := by
  unfold Obligations.RestoresAreAccepted
  refine ⟨fun s hdr tag kind k hto hfrom h => ?_, fun s kind k h => ?_⟩
  · intro u
    have hu : u.restorable kind k := (s.heard_restorable _ kind k).mpr h
    exact ⟨hu, State.restore_acts hto hfrom tag hu⟩
  obtain ⟨-, -, -, hstate, -, -⟩ := h
  intro t allNormal broken cleared
  have hnormal (ha : allNormal) : t = (s.accepting kind k).putSection k (s.sections[k].acceptRestore kind).restored :=
    State.acceptRestore_normal kind ha
  have hsections (ha : allNormal) : t.sections = upd s.sections k (s.sections[k].acceptRestore kind).restored := by
    rw [hnormal ha, State.putSection_sections, State.accepting_sections, upd_upd]
  refine ⟨State.acceptRestore_butTrack .., fun ha hkind => ?_, fun ha hkind => ?_, fun ha => ?_, fun hno => ?_,
    State.acceptRestore_owed kind hstate, fun j hj => ?_, fun j hj => ?_, fun c hc => ?_, fun c hc => ?_,
    fun x hx happart => ?_, fun x n hx hn hb => ⟨fun hst => ?_, fun hst => ?_⟩⟩
  · subst hkind
    exact hsections ha
  · subst hkind
    exact hsections ha
  · have hleaves : (s.sections[k].acceptRestore kind).restored.state ≠ .restoreWait := by
      cases kind <;> simp [SecRun.restored, SecRun.acceptRestore]
    rw [hnormal ha, State.putSection_restoreTimers, State.accepting_self, if_pos ⟨rfl, hleaves⟩,
      State.accepting_restoreTimers kind hstate, upd_upd]
  · obtain ⟨⟨w, hw⟩, htimer⟩ := State.acceptRestore_section kind hstate hno
    exact ⟨by rw [show t.sections[k] = _ from hw]; rfl, htimer⟩
  · obtain ⟨hbounds, hbroken⟩ := hj
    rw [State.sourceState_head] at hbroken
    exact State.acceptRestore_head kind hbounds hbroken
  · refine State.acceptRestore_head_kept kind fun ⟨hbounds, hbroken⟩ => hj ⟨hbounds, ?_⟩
    rw [State.sourceState_head]
    exact hbroken
  · obtain ⟨hbounds, hbroken⟩ := hc
    rw [State.sourceState_channel] at hbroken
    exact State.acceptRestore_channel kind hbounds hbroken
  · refine State.acceptRestore_channel_kept kind fun ⟨hbounds, hbroken⟩ => hc ⟨hbounds, ?_⟩
    rw [State.sourceState_channel]
    exact hbroken
  · exact State.acceptRestore_apart kind hx fun n hn hbroken => happart n ⟨hn, hbroken⟩
  · exact State.acceptRestore_counting kind hx hn.1 hn.2 hb ((SecState.counting_iff _).mpr hst)
  · obtain ⟨w, hw⟩ := State.acceptRestore_still kind hx (s := s) (by rcases hst with hst | hst | hst <;> rw [hst] <;> rfl)
    rw [show t.sections[x] = _ from hw]

end Sys2Proof.Machine
end

section
/-! SUPPORT. The numbers of wheel recognition: the plausibility limit and the speed (R57, R58), and the placement and
raising of extended head times (R46, R47, R49). -/

namespace Sys2Proof.Machine

/-! ## The plausibility limit and the speed (R57, R58) -/

section
variable {c : HeadRec}

/-- The plausibility limit is the least lead time that covers the spacing at the speed limit (R57). -/
theorem HeadRec.minLead_le_iff (hv : 0 < c.speedLimit.toNat) (n : Nat) :
    c.minLead ≤ n ↔ c.spacing.toNat * 180 ≤ n * c.speedLimit.toNat := by
  unfold HeadRec.minLead
  rw [← Nat.ceilDiv_eq_add_pred_div, ceilDiv_le_iff_le_mul hv, Nat.mul_comm c.speedLimit.toNat]
  rfl

/-- Over the ranges of the HEAD record the plausibility limit lies from 36 to 2,700 ticks (R57). -/
theorem HeadRec.minLead_range (hs : 80 ≤ c.spacing.toNat) (hs' : c.spacing.toNat ≤ 300)
    (hv : 20 ≤ c.speedLimit.toNat) (hv' : c.speedLimit.toNat ≤ 400) : 36 ≤ c.minLead ∧ c.minLead ≤ 2700 := by
  have hle (n : Nat) := c.minLead_le_iff (by omega) n
  constructor
  · have h35 : ¬c.minLead ≤ 35 := by
      rw [hle]
      omega
    omega
  · rw [hle]
    omega

/-- The speed is the greatest with which the spacing takes the lead time, and it fits its two bytes (R58). -/
theorem HeadRec.le_speed_iff (hs : c.spacing.toNat ≤ 300) {lead : Nat} (hl : 0 < lead) (n : Nat) :
    n ≤ (c.speed lead).toNat ↔ n * lead ≤ c.spacing.toNat * 180 := by
  have hfits : c.spacing.toNat * 180 / lead < 2 ^ 16 := (Nat.div_le_self _ _).trans_lt (by omega)
  have hspeed : (c.speed lead).toNat = c.spacing.toNat * 180 / lead :=
    (BitVec.toNat_ofNat _ _).trans (Nat.mod_eq_of_lt hfits)
  rw [hspeed, Nat.le_div_iff_mul_le hl]

end

/-- Settles O39: each rounding as the bound it gives on every whole number, then the ends of the ranges. -/
theorem limitAndSpeedAreRounded : Obligations.LimitAndSpeedAreRounded := by
  unfold Obligations.LimitAndSpeedAreRounded
  refine ⟨fun c hs hs' hv hv' => ?_, fun c lead hs hs' hv hv' hmin hheld => ?_⟩
  · have hle (n : Nat) := c.minLead_le_iff (by omega) n
    exact ⟨(hle _).mp le_rfl, fun n => (hle n).mpr, HeadRec.minLead_range hs hs' hv hv'⟩
  · have hpos : 0 < lead := by
      have := (HeadRec.minLead_range hs hs' hv hv').1
      omega
    have hle (n : Nat) := c.le_speed_iff hs' hpos n
    have hslow : (c.speed lead).toNat * lead ≤ c.spacing.toNat * 180 := (hle _).mp le_rfl
    have hlimit : (c.speed lead).toNat ≤ c.speedLimit.toNat :=
      Nat.le_of_mul_le_mul_right
        (calc (c.speed lead).toNat * lead
          _ ≤ c.spacing.toNat * 180 := hslow
          _ ≤ lead * c.speedLimit.toNat := (c.minLead_le_iff (by omega) lead).mp hmin
          _ = c.speedLimit.toNat * lead := Nat.mul_comm ..) hpos
    refine ⟨hslow, fun n => (hle n).mpr, hlimit, hlimit.trans hv', fun hfull => ?_⟩
    have hzero : ¬1 ≤ (c.speed lead).toNat := by
      rw [hle]
      omega
    exact BitVec.eq_of_toNat_eq (Nat.lt_one_iff.mp (not_le.mp hzero))

/-! ## Extended head times (R46, R47, R49) -/

/-- What the head clock reads a signed distance from a time. -/
theorem truncate_add_ofInt (e : Time) (r : Int) :
    (e + BitVec.ofInt 32 r).truncate 16 = e.truncate 16 + BitVec.ofInt 16 r := by
  have hread : (BitVec.ofInt 32 r).truncate 16 = BitVec.ofInt 16 r := by
    refine BitVec.eq_of_toNat_eq ?_
    simp only [BitVec.truncate, BitVec.toNat_setWidth, BitVec.toNat_ofInt]
    omega
  rw [← hread]
  exact BitVec.setWidth_add _ _ (by decide)

section
variable (a : Anchor) (now : Time) (stamp : Half)

/-- The deviation is a signed 16-bit difference. -/
theorem Anchor.deviation_range : -32768 ≤ a.deviation now stamp ∧ a.deviation now stamp ≤ 32767 := by
  have hlo := BitVec.le_toInt (stamp - (a.expectedTime now).truncate 16)
  have hhi := BitVec.toInt_lt (x := stamp - (a.expectedTime now).truncate 16)
  unfold Anchor.deviation signed16
  omega

/-- The head clock reads the stamp where the first edge of a frame is placed (R46). -/
theorem Anchor.place_truncate : (a.place now stamp).truncate 16 = stamp := by
  unfold Anchor.place
  rw [truncate_add_ofInt, Anchor.deviation, signed16, BitVec.ofInt_toInt, BitVec.add_comm, BitVec.sub_add_cancel]

/-- Of the points from 32,768 before E to 32,767 after it the head clock reads the stamp at one (R46). -/
theorem Anchor.deviation_unique {r : Int} (hlo : -32768 ≤ r) (hhi : r ≤ 32767)
    (h : (a.expectedTime now + BitVec.ofInt 32 r).truncate 16 = stamp) : a.deviation now stamp = r := by
  rw [truncate_add_ofInt] at h
  rw [Anchor.deviation, signed16, ← h, BitVec.add_comm, BitVec.add_sub_cancel, BitVec.toInt_ofInt]
  exact Int.bmod_eq_of_le (by omega) (by omega)

end

/-- A later edge lies forward of the one before it by the difference of the stamps (R47). -/
theorem laterEdge_sub (before : Time) (stamp₀ stamp : Half) :
    laterEdge before stamp₀ stamp - before = (stamp - stamp₀).zeroExtend 32 := by
  rw [laterEdge, BitVec.add_comm, BitVec.add_sub_cancel]

/-- A difference of stamps keeps its value as a difference of times. -/
theorem zeroExtend_toNat (d : Half) : (d.zeroExtend 32).toNat = d.toNat :=
  BitVec.toNat_setWidth_of_le (by decide)

theorem raiseTime_far {anchor held : Time} (h : 16777215 < (anchor - held).toNat) (h' : (anchor - held).toNat < 2 ^ 31) :
    raiseTime anchor held = anchor - 16777215 := by
  refine if_pos ?_
  rw [BitVec.toInt_eq_toNat_of_lt (by omega)]
  exact_mod_cast h

theorem raiseTime_near {anchor held : Time} (h : (anchor - held).toNat ≤ 16777215 ∨ 2 ^ 31 ≤ (anchor - held).toNat) :
    raiseTime anchor held = held := by
  refine if_neg (not_lt.mpr ?_)
  rw [BitVec.toInt_eq_toNat_cond]
  have hbound := (anchor - held).isLt
  unfold Config.leadHold
  split <;> omega

/-- Settles O37: the nearest placement, the forward placement and the raising, each by its own lemmas. -/
theorem edgesArePlaced : Obligations.EdgesArePlaced := by
  unfold Obligations.EdgesArePlaced
  refine ⟨fun a now ts => ?_, fun a now before ts₀ ts => ?_, fun r ext => ?_⟩
  · obtain ⟨hlo, hhi⟩ := a.deviation_range now ts
    refine ⟨a.place_truncate now ts, ⟨a.deviation now ts, hlo, hhi, rfl, rfl⟩, fun r hlo hhi hread => ?_⟩
    rw [← a.deviation_unique now ts hlo hhi hread]
    rfl
  · refine ⟨?_, fun heq => ?_, fun b now' => rfl⟩
    · rw [edgeTime, laterEdge_sub, zeroExtend_toNat, BitVec.toNat_sub]
      omega
    · subst heq
      simp [edgeTime, laterEdge]
  · exact ⟨raiseTime ext, rfl, fun held => ⟨raiseTime_far, raiseTime_near⟩⟩

end Sys2Proof.Machine
end

section
/-! SUPPORT. The recognition machine (R50 to R55): which edges a state admits, and the transition of each. -/

namespace Sys2Proof.Machine

/-! ## Which edges are admitted (R50) -/

/-- The sensors a wheel covers in each recognition state (R43). -/
def RecogState.covering : RecogState → Sensor → Bool
  | .vacant, _ => false
  | .aFromA, x | .aFromB, x => x == .a
  | .bFromB, x | .bFromA, x => x == .b
  | .bothFromA, _ | .bothFromB, _ => true

theorem RecogState.covering_iff (st : RecogState) (x : Sensor) : st.covering x = true ↔
    (x = .a ∧ (st = .aFromA ∨ st = .bothFromA ∨ st = .bothFromB ∨ st = .aFromB)) ∨
      (x = .b ∧ (st = .bFromB ∨ st = .bothFromA ∨ st = .bothFromB ∨ st = .bFromA)) := by
  cases st <;> cases x <;> simp [RecogState.covering]

/-- A plausibility check fails with TOO_FAST or not at all (R57). -/
theorem measured_ne_edgeOrder {c : HeadRec} {note : Option Time} {t : Time} {f : Nat → EdgeEffect}
    (h : ∀ lead, f lead ≠ .fault .edgeOrder) : measured c note t f ≠ .fault .edgeOrder := by
  unfold measured
  split
  · simp
  · split
    · simp
    · exact h _

/-- A state refuses the edges that cover a covered sensor or free a free one, and no other (R50). -/
theorem Recog.take_edgeOrder_iff (r : Recog) (k : Fin 32) (c : HeadRec) (x : Sensor) (on : Bool) (t : Time) :
    r.take k c x on t = .fault .edgeOrder ↔ r.state.covering x = on := by
  unfold Recog.take
  split
  case h_3 | h_5 | h_11 | h_13 => exact iff_of_false (measured_ne_edgeOrder fun _ => nofun) (by simp [*, RecogState.covering])
  case h_1 | h_2 | h_4 | h_6 | h_7 | h_8 | h_9 | h_10 | h_12 | h_14 =>
    exact iff_of_false nofun (by simp [*, RecogState.covering])
  all_goals exact iff_of_true rfl (by simp [*, RecogState.covering])

/-! ## The transitions (R51 to R55, R57, R60), for a wheel that enters from A and for one that enters from B -/

/-- The sensor a wheel comes onto and frees first. -/
def entrySensor (fromA : Bool) : Sensor := if fromA then .a else .b
/-- The sensor a wheel comes onto and frees last. -/
def exitSensor (fromA : Bool) : Sensor := if fromA then .b else .a

/-- A wheel on its entry sensor alone (R43). -/
def RecogState.onEntry (fromA : Bool) : RecogState := if fromA then .aFromA else .bFromB
/-- A wheel on both sensors (R43). -/
def RecogState.onBoth (fromA : Bool) : RecogState := if fromA then .bothFromA else .bothFromB
/-- A wheel on its exit sensor alone (R43). -/
def RecogState.onExit (fromA : Bool) : RecogState := if fromA then .bFromA else .aFromB

section
variable {c : HeadRec} {note : Option Time} {m t : Time} {f : Nat → EdgeEffect}

theorem measured_tooFast (hm : note = some m) (h : leadTime m t < c.minLead) : measured c note t f = .fault .tooFast := by
  rw [hm]
  exact if_pos h

theorem measured_passes (hm : note = some m) (h : c.minLead ≤ leadTime m t) : measured c note t f = f (leadTime m t) := by
  rw [hm]
  exact if_neg (not_lt.mpr h)

end

/-- The direction of a wheel that entered from A, or from B (R59). -/
theorem HeadRec.direction_eq (c : HeadRec) (fromA : Bool) : c.direction fromA = if fromA = c.reversed then .down else .up := by
  unfold HeadRec.direction
  cases fromA <;> cases c.reversed <;> rfl

section
variable {r : Recog} {k : Fin 32} {c : HeadRec} {t : Time} {fromA : Bool}

theorem Recog.take_enters (h : r.state = .vacant) :
    r.take k c (entrySensor fromA) true t = r.enters (.onEntry fromA) t := by
  unfold Recog.take
  cases fromA <;> rw [h] <;> rfl

theorem Recog.take_covers (h : r.state = .onEntry fromA) :
    r.take k c (exitSensor fromA) true t = r.covers c t (.onBoth fromA) := by
  unfold Recog.take
  cases fromA <;> rw [h] <;> rfl

theorem Recog.take_leavesEntry (h : r.state = .onEntry fromA) :
    r.take k c (entrySensor fromA) false t = r.rocksBack .vacant := by
  unfold Recog.take
  cases fromA <;> rw [h] <;> rfl

theorem Recog.take_advances (h : r.state = .onBoth fromA) :
    r.take k c (entrySensor fromA) false t = r.advances (.onExit fromA) t := by
  unfold Recog.take
  cases fromA <;> rw [h] <;> rfl

theorem Recog.take_rocksBack (h : r.state = .onBoth fromA) :
    r.take k c (exitSensor fromA) false t = r.rocksBack (.onEntry fromA) := by
  unfold Recog.take
  cases fromA <;> rw [h] <;> rfl

theorem Recog.take_completes (h : r.state = .onExit fromA) :
    r.take k c (exitSensor fromA) false t = r.completes k c t fromA := by
  unfold Recog.take
  cases fromA <;> rw [h] <;> rfl

theorem Recog.take_returns (h : r.state = .onExit fromA) :
    r.take k c (entrySensor fromA) true t = r.enters (.onBoth fromA) t := by
  unfold Recog.take
  cases fromA <;> rw [h] <;> rfl

/-- A wheel that rocks back off the pair gives up its on-note (R52, R55). -/
theorem Recog.rocksBack_vacant :
    r.rocksBack .vacant = .taken { r with state := .vacant, onNote := none, rockBack := oneMore r.rockBack } none := by
  rw [Recog.rocksBack, if_pos rfl, satInc_eq]

/-- A wheel that rocks back onto its entry sensor keeps its on-note (R53, R55). -/
theorem Recog.rocksBack_onEntry :
    r.rocksBack (.onEntry fromA) = .taken { r with state := .onEntry fromA, rockBack := oneMore r.rockBack } none := by
  rw [Recog.rocksBack, if_neg (by cases fromA <;> decide), satInc_eq]

theorem Recog.completes_passes {m : Time} (hm : r.offNote = some m) (h : c.minLead ≤ leadTime m t) :
    r.completes k c t fromA = .taken { r with state := .vacant, offNote := none }
      (some ⟨k, if fromA = c.reversed then .down else .up, c.speed (leadTime m t), t⟩) := by
  rw [← HeadRec.direction_eq]
  exact measured_passes hm h

end

/-- Settles O38: the refused edges, then the transitions in the order a wheel takes them. -/
theorem edgesMoveTheWheel : Obligations.EdgesMoveTheWheel := by
  unfold Obligations.EdgesMoveTheWheel
  intro r k c x on t coversA coversB covered
  have hcovered : covered ↔ r.state.covering x = true := (RecogState.covering_iff _ _).symm
  rw [ne_eq, Recog.take_edgeOrder_iff, hcovered]
  refine ⟨Bool.eq_iff_iff.mpr, fun h heq => ?_, fun fromA => ?_⟩
  · rw [heq] at h
    cases on <;> simp at h
  intro entry exit onEntry onBoth onExit lead
  refine ⟨fun h => ?_, fun m h hm => ⟨fun hfast => ?_, fun hslow => ?_⟩, fun h => ?_, fun h => ⟨?_, ?_⟩,
    fun m h hm => ⟨fun hfast => ?_, fun hslow => ?_⟩, fun h => ?_⟩
  · exact Recog.take_enters h
  · exact (Recog.take_covers h).trans (measured_tooFast hm hfast)
  · exact (Recog.take_covers h).trans (measured_passes hm hslow)
  · exact (Recog.take_leavesEntry h).trans Recog.rocksBack_vacant
  · exact Recog.take_advances h
  · exact (Recog.take_rocksBack h).trans Recog.rocksBack_onEntry
  · exact (Recog.take_completes h).trans (measured_tooFast hm hfast)
  · exact (Recog.take_completes h).trans (Recog.completes_passes hm hslow)
  · exact Recog.take_returns h

end Sys2Proof.Machine
end

section
/-! SUPPORT. The edges of a frame through the engine (R45, R48, R60, R61, R101): one edge at a time, and the four of a
wheel that crosses the pair. -/

namespace Sys2Proof.Machine

/-! ## A head's record beside the sections -/

section
variable (s : State) (k : Fin 32) (h : HeadRun)

theorem State.setHead_setHead (g : HeadRun) : (s.setHead k h).setHead k g = s.setHead k g := by
  rw [State.setHead, State.setHead_heads, upd_upd]
  rfl

theorem State.setHead_same : s.setHead k s.heads[k] = s := by
  rw [State.setHead, upd_same]

theorem State.putSection_setHead (x : Fin 24) (r : SecRun) :
    (s.setHead k h).putSection x r = (s.putSection x r).setHead k h := by
  unfold State.putSection
  dsimp only [State.setHead_sections]
  split <;> split <;> split <;> rfl

/-- A wheel-activity notice reads no head's record and writes none (R101). -/
theorem State.activity_setHead (n : Fin 40) : (s.setHead k h).activity n = (s.activity n).setHead k h :=
  List.foldl_hom (fun t : State => t.setHead k h) fun t e => t.putSection_setHead k h e.1 _

end

/-! ## One edge -/

theorem runsBackwards_iff (last : Option Time) (t : Time) :
    runsBackwards last t = true ↔ ∃ l, last = some l ∧ 2 ^ 31 ≤ (t - l).toNat := by
  cases last <;> simp [runsBackwards]

section
variable {s : State} {k : Fin 32} {before : Option (Time × Half)} {e : EdgeOperand} {t : Time}

/-- A first edge before the last edge time is out of order (R48). -/
theorem State.edgeEffect_early (hfirst : before = none) (h : runsBackwards s.heads[k].recog.lastEdge t = true) :
    s.edgeEffect k before.isNone e t = .fault .edgeOrder := by
  subst hfirst
  exact if_pos h

/-- Any other edge is left to the transitions (R45). -/
theorem State.edgeEffect_take (h : ¬(before = none ∧ runsBackwards s.heads[k].recog.lastEdge t = true)) :
    s.edgeEffect k before.isNone e t = s.heads[k].recog.take k s.tables.heads[k] (sensorOf e) (edgeIsOn e) t := by
  refine if_neg ?_
  rwa [Bool.and_eq_true, Option.isNone_iff_eq_none]

end

section
variable {s : State} {k : Fin 32} {an : Anchor} {before : Option (Time × Half)} {e : EdgeOperand} {es : List EdgeOperand}

/-- An edge that fails makes the head FAULTY and ends the frame (R61). -/
theorem State.edges_fails {why : FaultCause}
    (h : (s.activity (headSource k)).edgeEffect k before.isNone e (edgeTime an s.partTime before e.stamp) = .fault why) :
    s.edges k an before (e :: es) = (s.activity (headSource k)).commitHead k (s.heads[k].enterFaulty why) := by
  rw [State.edges, h, State.activity_heads]

/-- An edge that is taken leaves the transition's record, and its passage is delivered before the next edge (R45, R60). -/
theorem State.edges_takes {r : Recog} {p : Option PassageRecord}
    (h : (s.activity (headSource k)).edgeEffect k before.isNone e (edgeTime an s.partTime before e.stamp) = .taken r p) :
    s.edges k an before (e :: es) =
      (((s.activity (headSource k)).setHead k (s.heads[k].edgeTaken r (edgeTime an s.partTime before e.stamp))).deliverPassage p).edges
        k an (some (edgeTime an s.partTime before e.stamp, e.stamp)) es := by
  rw [State.edges, h, State.activity_heads]

/-- An edge taken at a head whose record stands as `h` leaves it as `g`. -/
theorem State.edges_setHead {h g : HeadRun} {c : HeadRec} {r : Recog} {p : Option PassageRecord} {t : Time}
    (hc : s.tables.heads[k] = c) (ht : edgeTime an s.partTime before e.stamp = t)
    (horder : ¬(before = none ∧ runsBackwards h.recog.lastEdge t = true))
    (htake : h.recog.take k c (sensorOf e) (edgeIsOn e) t = .taken r p)
    (hg : h.edgeTaken r t = g) :
    (s.setHead k h).edges k an before (e :: es) =
      (((s.activity (headSource k)).setHead k g).deliverPassage p).edges k an (some (t, e.stamp)) es := by
  subst hc ht hg
  have hhead : (s.setHead k h).heads[k] = h := upd_get_self ..
  have hactive : ((s.setHead k h).activity (headSource k)).heads[k] = h := by rw [State.activity_heads, hhead]
  have htables : ((s.setHead k h).activity (headSource k)).tables = s.tables := State.activity_tables ..
  have heffect : ((s.setHead k h).activity (headSource k)).edgeEffect k before.isNone e
      (edgeTime an s.partTime before e.stamp) = .taken r p := by
    rw [State.edgeEffect_take (by rwa [hactive]), hactive, htables]
    exact htake
  rw [State.edges_takes (s := s.setHead k h) heffect, hhead, State.activity_setHead, State.setHead_setHead]
  rfl

/-- The same for an edge that forms no passage record. -/
theorem State.edges_moves {h g : HeadRun} {c : HeadRec} {r : Recog} {t : Time}
    (hc : s.tables.heads[k] = c) (ht : edgeTime an s.partTime before e.stamp = t)
    (horder : ¬(before = none ∧ runsBackwards h.recog.lastEdge t = true))
    (htake : h.recog.take k c (sensorOf e) (edgeIsOn e) t = .taken r none) (hg : h.edgeTaken r t = g) :
    (s.setHead k h).edges k an before (e :: es) =
      ((s.activity (headSource k)).setHead k g).edges k an (some (t, e.stamp)) es := by
  rw [State.edges_setHead hc ht horder htake hg, State.deliverPassage_none]

end

/-! ## A wheel that crosses the pair in one frame -/

theorem sensorOf_entry {e : EdgeOperand} {fromA : Bool} (h : e.edge.getLsbD 0 = !fromA) : sensorOf e = entrySensor fromA := by
  rw [sensorOf, h]
  cases fromA <;> rfl

theorem sensorOf_exit {e : EdgeOperand} {fromA : Bool} (h : e.edge.getLsbD 0 = fromA) : sensorOf e = exitSensor fromA := by
  rw [sensorOf, h]
  rfl

/-- Within a frame a lead time is the difference of the stamps, and is not held (R47, R56). -/
theorem leadTime_laterEdge (before : Time) (stamp₀ stamp : Half) :
    leadTime before (laterEdge before stamp₀ stamp) = (stamp - stamp₀).toNat := by
  have hshort : (stamp - stamp₀).toNat ≤ Config.leadHold := by
    have := (stamp - stamp₀).isLt
    unfold Config.leadHold
    omega
  rw [leadTime, laterEdge_sub, zeroExtend_toNat, min_eq_left hshort]

/-- The edges of a wheel that crosses the pair, entering from A or from B, with plausible lead times (R51 to R54, R57). -/
structure CrossingEdges (c : HeadRec) (fromA : Bool) (e₁ e₂ e₃ e₄ : EdgeOperand) : Prop where
  ontoEntry : sensorOf e₁ = entrySensor fromA ∧ edgeIsOn e₁ = true
  ontoExit : sensorOf e₂ = exitSensor fromA ∧ edgeIsOn e₂ = true
  offEntry : sensorOf e₃ = entrySensor fromA ∧ edgeIsOn e₃ = false
  offExit : sensorOf e₄ = exitSensor fromA ∧ edgeIsOn e₄ = false
  leadIn : c.minLead ≤ (e₂.stamp - e₁.stamp).toNat
  leadOut : c.minLead ≤ (e₄.stamp - e₃.stamp).toNat

/-- The record with the wheel at a state of the pair, with these notes and last edge time, the tally of R55 kept. -/
def HeadRun.wheelAt (h : HeadRun) (st : RecogState) (onNote offNote lastEdge : Option Time) : HeadRun :=
  { h with recog := ⟨st, onNote, offNote, lastEdge, h.recog.rockBack⟩ }

section
variable {s : State} {k : Fin 32} {an : Anchor} {h : HeadRun} {c : HeadRec} {fromA : Bool} {e₁ e₂ e₃ e₄ : EdgeOperand}

/-- The four edges of a wheel that crosses the pair: four notices, the recognition record VACANT again, one passage. -/
theorem State.edges_crossing (hc : s.tables.heads[k] = c) (hvacant : h.recog.state = .vacant)
    (horder : ¬runsBackwards h.recog.lastEdge (an.place s.partTime e₁.stamp) = true) (he : CrossingEdges c fromA e₁ e₂ e₃ e₄) :
    let n := headSource k
    let t₄ := laterEdge (laterEdge (laterEdge (an.place s.partTime e₁.stamp) e₁.stamp e₂.stamp) e₂.stamp e₃.stamp)
      e₃.stamp e₄.stamp
    (s.setHead k h).edges k an none [e₁, e₂, e₃, e₄] =
      (((((s.activity n).activity n).activity n).activity n).setHead k (h.wheelAt .vacant none none (some t₄))).deliverPassage
        (some ⟨k, if fromA = c.reversed then .down else .up, c.speed (e₄.stamp - e₃.stamp).toNat, t₄⟩) := by
  intro n
  obtain ⟨h₁, h₂, h₃, h₄, hin, hout⟩ := he
  generalize ht₁ : an.place s.partTime e₁.stamp = t₁ at horder ⊢
  generalize ht₂ : laterEdge t₁ e₁.stamp e₂.stamp = t₂
  generalize ht₃ : laterEdge t₂ e₂.stamp e₃.stamp = t₃
  generalize ht₄ : laterEdge t₃ e₃.stamp e₄.stamp = t₄
  have hleadIn : leadTime t₁ t₂ = (e₂.stamp - e₁.stamp).toNat := by rw [← ht₂, leadTime_laterEdge]
  have hleadOut : leadTime t₃ t₄ = (e₄.stamp - e₃.stamp).toNat := by rw [← ht₄, leadTime_laterEdge]
  have htables (u : State) (hu : u.tables.heads[k] = c) : (u.activity n).tables.heads[k] = c := by
    rw [State.activity_tables, hu]
  have hc₁ := htables _ hc
  have hc₂ := htables _ hc₁
  have hc₃ := htables _ hc₂
  have htake₁ : h.recog.take k c (sensorOf e₁) (edgeIsOn e₁) t₁ = h.recog.enters (.onEntry fromA) t₁ := by
    rw [h₁.1, h₁.2, Recog.take_enters hvacant]
  have htake₂ : (h.wheelAt (.onEntry fromA) (some t₁) none (some t₁)).recog.take k c (sensorOf e₂) (edgeIsOn e₂) t₂ =
      (h.wheelAt (.onEntry fromA) (some t₁) none (some t₁)).recog.goes (.onBoth fromA) := by
    rw [h₂.1, h₂.2, Recog.take_covers rfl]
    exact measured_passes rfl (by rwa [hleadIn])
  have htake₃ : (h.wheelAt (.onBoth fromA) (some t₁) none (some t₂)).recog.take k c (sensorOf e₃) (edgeIsOn e₃) t₃ =
      (h.wheelAt (.onBoth fromA) (some t₁) none (some t₂)).recog.advances (.onExit fromA) t₃ := by
    rw [h₃.1, h₃.2, Recog.take_advances rfl]
  have htake₄ : (h.wheelAt (.onExit fromA) none (some t₃) (some t₃)).recog.take k c (sensorOf e₄) (edgeIsOn e₄) t₄ =
      .taken (h.wheelAt .vacant none none (some t₃)).recog
        (some ⟨k, if fromA = c.reversed then .down else .up, c.speed (e₄.stamp - e₃.stamp).toNat, t₄⟩) := by
    rw [h₄.1, h₄.2, Recog.take_completes rfl, ← hleadOut]
    exact Recog.completes_passes rfl (by rwa [hleadOut])
  calc (s.setHead k h).edges k an none [e₁, e₂, e₃, e₄]
    _ = ((s.activity n).setHead k (h.wheelAt (.onEntry fromA) (some t₁) none (some t₁))).edges
          k an (some (t₁, e₁.stamp)) [e₂, e₃, e₄] :=
        State.edges_moves hc (before := none) ht₁ (fun ho => horder ho.2) htake₁ rfl
    _ = (((s.activity n).activity n).setHead k (h.wheelAt (.onBoth fromA) (some t₁) none (some t₂))).edges
          k an (some (t₂, e₂.stamp)) [e₃, e₄] :=
        State.edges_moves hc₁ (before := some _) ht₂ nofun htake₂ rfl
    _ = ((((s.activity n).activity n).activity n).setHead k (h.wheelAt (.onExit fromA) none (some t₃) (some t₃))).edges
          k an (some (t₃, e₃.stamp)) [e₄] :=
        State.edges_moves hc₂ (before := some _) ht₃ nofun htake₃ rfl
    _ = _ := State.edges_setHead hc₃ (before := some _) ht₄ nofun htake₄ rfl

end

/-- Settles O35: one edge by its order and its transition; the crossing as four such edges. -/
theorem wheelCrossingFormsAPassage : Obligations.WheelCrossingFormsAPassage := by
  unfold Obligations.WheelCrossingFormsAPassage
  refine ⟨fun s k an before => ⟨rfl, fun e rest => ?_⟩, ?_⟩
  · intro h t u early effect result faulty taken
    have hhead : u.heads[k] = h := by rw [State.activity_heads]
    have hearly : early ↔ before = none ∧ runsBackwards u.heads[k].recog.lastEdge t = true := by
      rw [runsBackwards_iff, hhead]
    have heffect (ho : ¬early) : u.edgeEffect k before.isNone e t = effect := by
      rw [State.edgeEffect_take (mt hearly.mpr ho), hhead, State.activity_tables]
      rfl
    refine ⟨fun ho => ?_, fun why ho he => ?_, fun r ho he => ?_, fun r p ho he => ?_⟩
    · exact State.edges_fails (State.edgeEffect_early (hearly.mp ho).1 (hearly.mp ho).2)
    · exact State.edges_fails ((heffect ho).trans he)
    · exact State.edges_takes ((heffect ho).trans he)
    · exact State.edges_takes ((heffect ho).trans he)
  · intro s hdr seq flags e₁ e₂ e₃ e₄ k an fromA hto hchained hseq hflag han hfresh hvacant horder h₁ h₂ h₃ h₄ hin hout
      h n t₄ g d v w x
    obtain ⟨-, -, -, hedges⟩ := wheelEdgesAreCounted s hdr seq flags [e₁, e₂, e₃, e₄] k hto (by simp) (by simp) hchained hseq
    have hcounted := hedges an hflag han hfresh
    have honA : ([e₁, e₂, e₃, e₄].countP fun e => !e.edge.getLsbD 0) = 2 := by
      simp only [List.countP_cons, List.countP_nil, h₁.1, h₂.1, h₃.1, h₄.1]
      cases fromA <;> rfl
    simp only [honA] at hcounted
    have hhead : v.setHead k g = v := by
      have hg : v.heads[k] = g := by rw [State.commitHead_heads, upd_get_self]
      rw [← hg, State.setHead_same]
    have htime : v.partTime = s.partTime := State.commitHead_partTime ..
    have htables : v.tables = s.tables := State.commitHead_tables ..
    have hforward : ¬runsBackwards h.recog.lastEdge (an.place v.partTime e₁.stamp) = true := by
      rw [htime, runsBackwards_iff]
      rintro ⟨l, hl, hback⟩
      exact absurd (horder l hl) (not_lt.mpr hback)
    have hcross := State.edges_crossing (s := v) (h := g) (c := s.tables.heads[k]) (by rw [htables]) hvacant hforward
      ⟨⟨sensorOf_entry h₁.1, h₁.2⟩, ⟨sensorOf_exit h₂.1, h₂.2⟩, ⟨sensorOf_entry h₃.1, h₃.2⟩, ⟨sensorOf_exit h₄.1, h₄.2⟩, hin, hout⟩
    rw [hhead, htime] at hcross
    exact hcounted.trans (congrArg _ hcross)

end Sys2Proof.Machine
end

section
/-! SUPPORT. In RUN the tables are tables that pass validation (R70): they are judged at RUN entry (R71), and no other
event of RUN moves a table, the own station or the mode. -/

namespace Sys2Proof.Machine

/-! ## What moves neither the mode nor a table -/

/-- Taking a frame moves only what the six classes hold (R11). -/
theorem State.takeReady_frame {s t : State} {o : Outgoing} (h : s.takeReady = some (o, t)) :
    t = { s with linePort := t.linePort, relayOut := t.relayOut, notice := t.notice, watch := t.watch } := by
  rcases State.takeReady_cases h with hc | hc | hc | hc | hc | hc
  · unfold State.takeAnswer at hc
    split at hc <;> cases hc
    rfl
  · unfold State.takeRelay at hc
    split at hc <;> cases hc
    rfl
  · unfold State.takeVerdict at hc
    split at hc
    · cases hc
    · split at hc <;> cases hc
      rfl
  · unfold State.takeRound at hc
    split at hc <;> cases hc
    rfl
  · unfold State.takeNotice at hc
    split at hc <;> cases hc
    rfl
  · unfold State.takeForward at hc
    split at hc <;> cases hc
    rfl

/-- A WRITE that is taken finds the part in CONFIG (R167). -/
theorem State.judgeWrite_config {s : State} {p : List Byte} {w : TableId × Tables} (h : s.judgeWrite p = .ok w) :
    s.mode = .config := by
  refine s.mode.config_or_run.resolve_right fun hrun => ?_
  rw [State.judgeWrite, if_pos hrun] at h
  cases h

theorem State.linesAfterWrite_mode (s : State) (id : TableId) (p : List Byte) : (s.linesAfterWrite id p).mode = s.mode := by
  cases id <;> rfl

/-! ## The invariant along every event -/

/-- CONFIG asks nothing of the tables. -/
theorem State.runTablesValid_of_config {s : State} (h : s.mode = .config) : s.RunTablesValid := fun hrun =>
  absurd (h.symm.trans hrun) nofun

namespace State.RunTablesValid

variable {s t : State} (h : s.RunTablesValid)
include h

theorem congr (hmode : t.mode = s.mode) (htables : t.tables = s.tables) (hpins : t.pins = s.pins) : t.RunTablesValid := by
  unfold State.RunTablesValid
  rw [hmode, htables, hpins]
  exact h

theorem of_track (ht : t.butTrack = s.butTrack) : t.RunTablesValid :=
  h.congr (State.mode_of_butTrack ht) (State.tables_of_butTrack ht) (State.pins_of_butTrack ht)

/-! ### Frames and requests -/

/-- A request moves a table in CONFIG alone, and enters RUN with tables that pass (R71, R167). -/
theorem act (c : RequestCode) (p : List Byte) : (s.act c p).1.RunTablesValid := by
  apply State.act_cases
  case kept | restart => exact h
  case hold | watchSet | captured => exact fun _ => h
  case toConfig => exact fun _ => State.runTablesValid_of_config rfl
  case toRun => exact fun _ hpass _ => hpass
  case written =>
    refine fun id t hw => State.runTablesValid_of_config ?_
    rw [State.linesAfterWrite_mode, State.setTables_mode, State.judgeWrite_config hw]
  case readmitted => exact fun n _ => h.of_track (State.readmitBroken_butTrack s n)
  case restored => exact fun kind _ k _ => h.of_track (State.acceptRestore_butTrack s kind k)
  case cancelled => exact fun _ k _ => h.of_track (State.putSection_butTrack s k _)

theorem request (f : Frame) : (s.request f).RunTablesValid :=
  State.request_cases s f h (fun _ _ => h) fun c _ _ => h.act c _

theorem relayIn (f : Frame) : (s.relayIn f).RunTablesValid := by
  unfold State.relayIn
  split
  · exact h
  · split
    · exact h
    · exact h.of_track (State.channelFrame_butTrack ..)

theorem headOrder (f : Frame) : (s.headOrder f).RunTablesValid := by
  refine State.headOrder_cases s f h (fun _ _ => h) fun _ => ?_
  have hqueued : (s.queueOrder f).RunTablesValid := h
  exact hqueued.of_track (State.testHeads_butTrack ..)

theorem lineArrival (j : Judged) : (s.lineArrival j).RunTablesValid := by
  refine State.lineArrival_cases s j h h fun f _ => ?_
  have hh : (s.heard f).RunTablesValid := h
  generalize s.heard f = u at hh ⊢
  exact State.routeLine_cases _ f hh hh hh (hh.request f) (hh.relayIn f) (hh.headOrder f)

theorem fieldArrival (j : Judged) : (s.fieldArrival j).RunTablesValid := by
  refine State.fieldArrival_cases s j h h fun f _ => ?_
  have hh : (s.fieldHeard f).RunTablesValid := h
  generalize s.fieldHeard f = u at hh ⊢
  exact State.evaluate_cases _ f hh hh (fun _ _ => hh.of_track (State.lifeFrame_butTrack ..))
    (fun _ _ => hh.of_track (State.wheelFrame_butTrack ..))

/-! ### The transmitters, the timers and the pins -/

/-- A soft restart keeps the mode, the tables and the pins (R182). -/
theorem softRestart : s.softRestart.RunTablesValid := by
  rw [State.softRestart_frame]
  exact h

theorem afterSent (o : Outgoing) : (s.afterSent o).RunTablesValid := by
  unfold State.afterSent
  split
  · exact h.softRestart
  · exact h

theorem takeReady {o : Outgoing} (ht : s.takeReady = some (o, t)) : t.RunTablesValid := by
  rw [State.takeReady_frame ht]
  exact h

theorem event (ht : Event s t) : t.RunTablesValid := by
  cases ht with
  | idle | tick | resetLow | orderSent => exact h
  | hardwareReset _ _ => exact State.runTablesValid_of_config rfl
  | levelChange l v =>
    unfold State.levelChange
    dsimp only
    split <;> exact h
  | fieldArrival j => exact h.fieldArrival j
  | lineArrival j => exact h.lineArrival j
  | headExpiry k => exact h.of_track (State.headExpiry_butTrack s k)
  | channelExpiry c => exact h.of_track (State.channelExpiry_butTrack s c)
  | relayExpiry k => exact h.of_track (State.relayExpiry_butTrack s k)
  | restoreExpiry k => exact h.of_track (State.butTrack_of_butSections (State.restoreExpiry_butSections s k))
  | silenceExpiry =>
    unfold State.silenceExpiry
    split <;> exact h
  | roundExpiry =>
    unfold State.roundExpiry
    split <;> exact h
  | activationExpiry l =>
    unfold State.activationExpiry
    split
    · have hline : (s.setLine l { s.lines[l] with activation := .spent, timer := none }).RunTablesValid := h
      exact hline.of_track (State.localRestore_butTrack ..)
    · exact h
  | arbiterTurn =>
    exact State.arbitrate_preserves (fun _ _ _ hs ht => hs.takeReady ht) (fun _ o hs => hs.afterSent o)
      (fun _ _ hs => hs) _ s h
  | lineSent =>
    unfold State.lineSent
    split
    · exact h
    · next o _ => exact State.RunTablesValid.afterSent (s := s.setLinePort { s.linePort with tx := none }) h o
  | startOrder =>
    unfold State.startOrder
    split <;> exact h

end State.RunTablesValid

/-- Settles O13: validation lets tables into RUN, and no event of RUN moves what it judged. -/
theorem runTablesStayValid : Obligations.RunTablesStayValid := by
  unfold Obligations.RunTablesStayValid
  exact fun s t hs ht => step_preserves (fun _ h => h) (fun _ _ h he => h.event he) hs ht

end Sys2Proof.Machine
end

section
/-! SUPPORT. Validation (R71 to R77): which check names which record, each check in the words of its rule, and what
tables that pass it guarantee (R66). -/

namespace Sys2Proof.Machine

/-! ## The checks in order (R71) -/

/-- The search of a table answers with the lowest index that has the property. -/
theorem lowest_eq_some_iff {n : Nat} {p : Fin n → Bool} {i : Fin n} :
    lowest p = some i ↔ p i = true ∧ ∀ j, j < i → p j = false := by
  refine ⟨lowest_eq_some, fun ⟨hi, hlow⟩ => ?_⟩
  cases h : lowest p with
  | none => rw [lowest_eq_none h i] at hi; cases hi
  | some k =>
    obtain ⟨hk, hklow⟩ := lowest_eq_some h
    rcases lt_trichotomy k i with hlt | rfl | hgt
    · rw [hlow k hlt] at hk; cases hk
    · rfl
    · rw [hklow i hgt] at hi; cases hi

section
variable {n : Nat} {check table : Byte} {p : Fin n → Bool}

theorem offenceIn_eq_none : offenceIn check table p = none ↔ ∀ i, ¬p i = true := by
  rw [offenceIn, Option.map_eq_none_iff]
  exact ⟨fun h i => by rw [lowest_eq_none h i]; exact Bool.false_ne_true,
    fun h => List.find?_eq_none.mpr fun i _ => h i⟩

theorem offenceIn_eq_some {o : Offence} : offenceIn check table p = some o ↔
    o.check = check ∧ o.table = table ∧ LowestIndex (fun i => p i = true) o.index := by
  simp only [offenceIn, Option.map_eq_some_iff, lowest_eq_some_iff, LowestIndex, Bool.not_eq_true]
  constructor
  · rintro ⟨i, hi, rfl⟩
    exact ⟨rfl, rfl, i, rfl, hi⟩
  · rintro ⟨rfl, rfl, i, hindex, hi⟩
    exact ⟨i, hi, by rw [hindex]⟩

end

section
variable {t : Tables} {own : Option Byte}

/-- Check 7 is of one record, and names it 0. -/
theorem Tables.offence7_eq_some {o : Offence} : (if t.offends7 then some (⟨7, 1, 0⟩ : Offence) else none) = some o ↔
    t.offends7 = true ∧ o.check = 7 ∧ o.table = 1 ∧ o.index = 0 := by
  cases o
  cases t.offends7 <;> simp [eq_comm]

theorem Tables.validate_eq_none : t.validate own = none ↔ ((((((∀ k, ¬t.offends1 k = true) ∧ ∀ c, ¬t.offends2 own c = true) ∧
    ∀ e, ¬t.offends3 e = true) ∧ ∀ e, ¬t.offends4 e = true) ∧ ∀ x, ¬t.offends5 x = true) ∧ ∀ l, ¬t.offends6 l = true) ∧
    ¬t.offends7 = true := by
  have hseven : (if t.offends7 then some (⟨7, 1, 0⟩ : Offence) else none) = none ↔ ¬t.offends7 = true := by
    cases t.offends7 <;> simp
  simp only [Tables.validate, Option.or_eq_none_iff, offenceIn_eq_none, hseven, and_assoc]

/-- A check names an offence once every check before it has passed. -/
theorem Tables.validate_eq_some {o : Offence} : t.validate own = some o ↔
    offenceIn 1 2 t.offends1 = some o ∨ (∀ k, ¬t.offends1 k = true) ∧
    (offenceIn 2 3 (t.offends2 own) = some o ∨ (∀ c, ¬t.offends2 own c = true) ∧
    (offenceIn 3 5 t.offends3 = some o ∨ (∀ e, ¬t.offends3 e = true) ∧
    (offenceIn 4 5 t.offends4 = some o ∨ (∀ e, ¬t.offends4 e = true) ∧
    (offenceIn 5 4 t.offends5 = some o ∨ (∀ x, ¬t.offends5 x = true) ∧
    (offenceIn 6 7 t.offends6 = some o ∨ (∀ l, ¬t.offends6 l = true) ∧
    (t.offends7 = true ∧ o.check = 7 ∧ o.table = 1 ∧ o.index = 0)))))) := by
  simp only [Tables.validate, Option.or_eq_some_iff, offenceIn_eq_none, Tables.offence7_eq_some]

end

/-! ## Used slots, channels and sources (R64) -/

theorem HeadRec.used_iff (r : HeadRec) : r.used = true ↔ 1 ≤ r.address.toNat ∧ r.address.toNat ≤ 63 := by
  simp [HeadRec.used]

theorem RelayRec.used_iff (r : RelayRec) : r.used = true ↔ 1 ≤ r.station.toNat ∧ r.station.toNat ≤ 239 := by
  simp [RelayRec.used]

theorem headSource_inj {j k : Fin 32} : headSource j = headSource k ↔ j = k := by
  simp [headSource, Fin.ext_iff]

theorem channelSource_inj {c d : Fin 8} : channelSource c = channelSource d ↔ c = d := by
  simp [channelSource, Fin.ext_iff]

theorem headSource_ne_channelSource (k : Fin 32) (c : Fin 8) : headSource k ≠ channelSource c := fun h => by
  have hval := congrArg Fin.val h
  simp only [headSource, channelSource] at hval
  omega

/-- A source is used when it is a used slot or a used channel. -/
theorem Tables.sourceUsed_iff (t : Tables) (n : Fin 40) : t.sourceUsed n = true ↔
    (∃ k, headSource k = n ∧ t.heads[k].used = true) ∨ ∃ c, channelSource c = n ∧ t.relays[c].used = true := by
  rcases source_cases n with ⟨k, rfl⟩ | ⟨c, rfl⟩
  · simp only [Tables.sourceUsed, sourceHead_headSource, headSource_inj, exists_eq_left,
      fun c => (headSource_ne_channelSource k c).symm, false_and, exists_false, or_false]
  · simp only [Tables.sourceUsed, sourceHead_channelSource, sourceChannel_channelSource, channelSource_inj, exists_eq_left,
      headSource_ne_channelSource, false_and, exists_false, false_or]

/-! ## Each check in the words of its rule (R72 to R77) -/

/-- The used entry stands before entry `e` and names its source (R75). -/
def Tables.Earlier (t : Tables) (e j : Fin 96) : Prop :=
  j < e ∧ t.boundaries[j].sec ≠ none ∧ t.boundaries[j].source = t.boundaries[e].source

section
variable {t : Tables}

theorem Tables.offends1_iff {k : Fin 32} : t.offends1 k = true ↔ t.heads[k].used = true ∧
    ∃ j, j ≠ k ∧ t.heads[j].used = true ∧ t.heads[j].address = t.heads[k].address := by
  simp [Tables.offends1, and_assoc]

theorem Tables.offends2_iff {own : Option Byte} {c : Fin 8} : t.offends2 own c = true ↔ t.relays[c].used = true ∧
    (own = some t.relays[c].station ∨ ∃ d, d ≠ c ∧ t.relays[d].used = true ∧
      t.relays[d].station = t.relays[c].station ∧ t.relays[d].headAddress = t.relays[c].headAddress) := by
  simp [Tables.offends2, and_assoc]

theorem Tables.offends3_iff {e : Fin 96} : t.offends3 e = true ↔ ∃ x, t.boundaries[e].sec = some x ∧
    (t.sections[x].inUse = false ∨ ¬t.sourceUsed t.boundaries[e].source = true) := by
  unfold Tables.offends3
  cases t.boundaries[e].sec <;> simp

/-- The earlier entries, by the ascending list of their indices. -/
theorem Tables.earlierEntries_eq (t : Tables) (e : Fin 96) : ∃ is : List (Fin 96),
    t.earlierEntries e = is.map (fun i => t.boundaries[i]) ∧ is.Pairwise (· < ·) ∧ ∀ i, i ∈ is ↔ t.Earlier e i := by
  refine ⟨(List.finRange 96).filter fun j =>
    j < e ∧ t.boundaries[j].sec.isSome ∧ t.boundaries[j].source = t.boundaries[e].source, ?_,
    (List.pairwise_lt_finRange 96).filter _, fun i => ?_⟩
  · rw [Tables.earlierEntries, ← List.filterMap_eq_map, List.filterMap_filter]
    simp
  · simp [Tables.Earlier, Option.isSome_iff_ne_none]

/-- Check 4, by how many entries of the source stand before: none, one, or more (R75). -/
theorem Tables.offends4_iff {e : Fin 96} : t.offends4 e = true ↔ t.boundaries[e].sec ≠ none ∧
    ((∃ i j, i < j ∧ t.Earlier e i ∧ t.Earlier e j) ∨ ∃ j, t.Earlier e j ∧
      (t.boundaries[j].sec = t.boundaries[e].sec ∨ t.boundaries[j].sense = t.boundaries[e].sense)) := by
  obtain ⟨is, hentries, hsorted, hmem⟩ := t.earlierEntries_eq e
  simp only [Tables.offends4, Bool.and_eq_true, Option.isSome_iff_ne_none, hentries, ← hmem]
  refine and_congr_right fun _ => ?_
  match is, hsorted with
  | [], _ => simp
  | [i], _ => simp
  | i :: j :: _, hsorted =>
    have hij : i < j := List.rel_of_pairwise_cons hsorted List.mem_cons_self
    simp only [List.map_cons, true_iff]
    exact .inl ⟨i, j, hij, List.mem_cons_self, List.mem_cons_of_mem _ List.mem_cons_self⟩

/-- The boundary sources of a section are as many as its used entries. -/
theorem Tables.boundarySources_length (t : Tables) (x : Fin 24) :
    (t.boundarySources x).length = (List.finRange 96).countP fun e => t.boundaries[e].sec = some x := by
  rw [Tables.boundarySources, List.length_filterMap_eq_countP]
  congr 1
  funext e
  split <;> simp_all

theorem Tables.offends5_iff {x : Fin 24} : t.offends5 x = true ↔ t.sections[x].inUse = true ∧
    ((t.boundarySources x).length = 0 ∨ 6 < (t.boundarySources x).length) := by
  simp only [Tables.offends5, Bool.and_eq_true, Bool.or_eq_true, beq_iff_eq, decide_eq_true_iff]
  exact Iff.rfl

theorem Tables.offends6_iff {l : Fin 8} : t.offends6 l = true ↔ (t.lines[l].function = .sectionOut ∨
    t.lines[l].function = .restoreIn ∨ t.lines[l].function = .inhibitIn) ∧ t.sections[t.lines[l].sec].inUse = false := by
  unfold Tables.offends6
  cases t.lines[l].function <;> simp

theorem Tables.offends7_iff : t.offends7 = true ↔ t.part.interlocking = 0 ∨ t.part.maintenance = 0 := by
  simp [Tables.offends7]

end

/-! ## What tables that pass guarantee (R66, R72, R73, R75, R76) -/

section
variable {t : Tables}

theorem Tables.heads_distinct (h : ∀ k, ¬t.offends1 k = true) {j k : Fin 32} (hj : t.heads[j].used = true)
    (hk : t.heads[k].used = true) (haddress : t.heads[j].address = t.heads[k].address) : j = k :=
  by_contra fun hne => h k (Tables.offends1_iff.mpr ⟨hk, j, hne, hj, haddress⟩)

theorem Tables.channels_distinct {own : Option Byte} (h : ∀ c, ¬t.offends2 own c = true) {c d : Fin 8}
    (hc : t.relays[c].used = true) (hd : t.relays[d].used = true) (hstation : t.relays[c].station = t.relays[d].station)
    (haddress : t.relays[c].headAddress = t.relays[d].headAddress) : c = d :=
  by_contra fun hne => h d (Tables.offends2_iff.mpr ⟨hd, .inr ⟨c, hne, hc, hstation, haddress⟩⟩)

theorem Tables.channel_elsewhere {own : Option Byte} (h : ∀ c, ¬t.offends2 own c = true) {c : Fin 8}
    (hc : t.relays[c].used = true) : own ≠ some t.relays[c].station :=
  fun hown => h c (Tables.offends2_iff.mpr ⟨hc, .inl hown⟩)

theorem Tables.entry_inUse (h : ∀ e, ¬t.offends3 e = true) {e : Fin 96} {x : Fin 24} (he : t.boundaries[e].sec = some x) :
    t.sections[x].inUse = true ∧ t.sourceUsed t.boundaries[e].source = true := by
  have hpass : ¬(t.sections[x].inUse = false ∨ ¬t.sourceUsed t.boundaries[e].source = true) :=
    fun ho => h e (Tables.offends3_iff.mpr ⟨x, he, ho⟩)
  simpa only [not_or, Bool.not_eq_false, not_not] using hpass

theorem Tables.boundarySources_size (h : ∀ x, ¬t.offends5 x = true) {x : Fin 24} (hx : t.sections[x].inUse = true) :
    1 ≤ (t.boundarySources x).length ∧ (t.boundarySources x).length ≤ 6 := by
  have hpass : ¬((t.boundarySources x).length = 0 ∨ 6 < (t.boundarySources x).length) :=
    fun ho => h x (Tables.offends5_iff.mpr ⟨hx, ho⟩)
  omega

theorem Tables.entriesOfSource_eq (t : Tables) (n : Fin 40) : t.entriesOfSource n = (List.finRange 96).filterMap fun e =>
    t.boundaries[e].sec.bind fun x => if t.boundaries[e].source = n then some (x, t.boundaries[e].sense) else none := by
  rw [Tables.entriesOfSource]
  congr 1
  funext e
  cases t.boundaries[e].sec <;> rfl

/-- Of two used entries that name one source, the later differs from the earlier in section and in sense (R75). -/
theorem Tables.entries_differ (h : ∀ e, ¬t.offends4 e = true) {i j : Fin 96} (hij : i < j) (hi : t.boundaries[i].sec ≠ none)
    (hj : t.boundaries[j].sec ≠ none) (hsource : t.boundaries[i].source = t.boundaries[j].source) :
    t.boundaries[i].sec ≠ t.boundaries[j].sec ∧ t.boundaries[i].sense ≠ t.boundaries[j].sense := by
  have hpass := mt Tables.offends4_iff.mpr (h j)
  simp only [not_and, not_or, not_exists] at hpass
  exact (hpass hj).2 i ⟨hij, hi, hsource⟩

theorem Tables.entriesOfSource_pairwise (h : ∀ e, ¬t.offends4 e = true) (n : Fin 40) :
    (t.entriesOfSource n).Pairwise fun a b => a.1 ≠ b.1 ∧ a.2 ≠ b.2 := by
  rw [Tables.entriesOfSource_eq, List.pairwise_filterMap]
  refine (List.pairwise_lt_finRange 96).imp fun {i j} hij a ha b hb => ?_
  simp only [Option.bind_eq_some_iff, Option.ite_none_right_eq_some, Option.some.injEq] at ha hb
  obtain ⟨x, hi, rfl, rfl⟩ := ha
  obtain ⟨y, hj, hsource, rfl⟩ := hb
  have hdiffer := Tables.entries_differ h hij (by rw [hi]; nofun) (by rw [hj]; nofun) hsource.symm
  rw [hi, hj] at hdiffer
  exact ⟨fun hxy => hdiffer.1 (congrArg some hxy), hdiffer.2⟩

theorem Sense.eq_of_ne {x y z : Sense} (hy : x ≠ y) (hz : x ≠ z) : y = z := by
  cases x <;> cases y <;> cases z <;> trivial

/-- There are two senses, so no source has a third entry. -/
theorem Sense.length_le_two {es : List (Fin 24 × Sense)} (h : es.Pairwise fun a b => a.1 ≠ b.1 ∧ a.2 ≠ b.2) :
    es.length ≤ 2 := by
  match es, h with
  | [], _ | [_], _ | [_, _], _ => simp
  | a :: b :: c :: _, h =>
    obtain ⟨ha, htail⟩ := List.pairwise_cons.mp h
    have hbc := List.rel_of_pairwise_cons htail List.mem_cons_self
    exact absurd (Sense.eq_of_ne (ha b (by simp)).2 (ha c (by simp)).2) hbc.2

theorem Tables.boundarySources_nodup (h : ∀ e, ¬t.offends4 e = true) (x : Fin 24) : (t.boundarySources x).Nodup := by
  rw [Tables.boundarySources, List.Nodup, List.pairwise_filterMap]
  refine (List.pairwise_lt_finRange 96).imp fun {i j} hij a ha b hb hab => ?_
  simp only [Option.ite_none_right_eq_some, Option.some.injEq] at ha hb
  obtain ⟨hi, rfl⟩ := ha
  obtain ⟨hj, rfl⟩ := hb
  exact (Tables.entries_differ h hij (by rw [hi]; nofun) (by rw [hj]; nofun) hab).1 (hi.trans hj.symm)

end

/-- Settles O14: each check is its rule, the first that names a record answers, and none that does is the topology of
chapter 4. -/
theorem validatedTopology : Obligations.ValidatedTopology := by
  unfold Obligations.ValidatedTopology
  intro t own slot channel earlier entries offends1 offends2 offends3 offends4 offends5 offends6 offends7
  have hslot (k : Fin 32) : t.heads[k].used = true ↔ slot k := HeadRec.used_iff _
  have hchannel (c : Fin 8) : t.relays[c].used = true ↔ channel c := RelayRec.used_iff _
  have h1 (k : Fin 32) : t.offends1 k = true ↔ offends1 k := by
    simp only [Tables.offends1_iff, hslot, offends1]
  have h2 (c : Fin 8) : t.offends2 own c = true ↔ offends2 c := by
    simp only [Tables.offends2_iff, hchannel, offends2]
  have h3 (e : Fin 96) : t.offends3 e = true ↔ offends3 e := by
    simp only [Tables.offends3_iff, Tables.sourceUsed_iff, not_or, hslot, hchannel, offends3]
  have h4 (e : Fin 96) : t.offends4 e = true ↔ offends4 e := Tables.offends4_iff
  have h5 (x : Fin 24) : t.offends5 x = true ↔ offends5 x := by
    simp only [Tables.offends5_iff, Tables.boundarySources_length, offends5, entries]
  have h6 (l : Fin 8) : t.offends6 l = true ↔ offends6 l := Tables.offends6_iff
  have h7 : t.offends7 = true ↔ offends7 := Tables.offends7_iff
  refine ⟨hslot, hchannel, ?_⟩
  intro pass1 pass2 pass3 pass4 pass5 pass6
  refine ⟨?_, fun o => ?_, fun hv => ?_⟩
  · simp only [Tables.validate_eq_none, h1, h2, h3, h4, h5, h6, h7, pass1, pass2, pass3, pass4, pass5, pass6]
  · simp only [Tables.validate_eq_some, offenceIn_eq_some, h1, h2, h3, h4, h5, h6, h7, pass1, pass2, pass3, pass4, pass5,
      pass6, and_or_left, and_assoc]
  · obtain ⟨⟨⟨⟨⟨⟨hslots, hchannels⟩, hused⟩, hentries⟩, hsizes⟩, -⟩, hstations⟩ := Tables.validate_eq_none.mp hv
    refine ⟨fun _ _ => Tables.heads_distinct hslots, fun _ _ => Tables.channels_distinct hchannels,
      fun _ => Tables.channel_elsewhere hchannels, fun _ _ => Tables.entry_inUse hused, fun n => ?_, fun x hx => ?_, ?_⟩
    · have hpairwise := Tables.entriesOfSource_pairwise hentries n
      refine ⟨Sense.length_le_two hpairwise, fun a b hab => ?_⟩
      rw [hab] at hpairwise
      exact List.rel_of_pairwise_cons hpairwise List.mem_cons_self
    · obtain ⟨hone, hsix⟩ := Tables.boundarySources_size hsizes hx
      exact ⟨hone, hsix, Tables.boundarySources_nodup hentries x⟩
    · simpa only [Tables.offends7_iff, not_or] using hstations

end Sys2Proof.Machine
end

section
/-! SUPPORT. An event spread over a source's entries, read at one section (R67, R68, R101): what the section's own
operation reads and moves, and that no other section's operation touches it. -/

namespace Sys2Proof.Machine

/-! ## Two states alike at a section -/

/-- The states agree at section `k` and in everything an operation at a section reads besides. -/
def State.AlikeAt (k : Fin 24) (t u : State) : Prop :=
  t.butSections = u.butSections ∧ t.sections[k] = u.sections[k] ∧ t.notice.owed[k] = u.notice.owed[k] ∧
    t.restoreTimers[k] = u.restoreTimers[k]

namespace State.AlikeAt

variable {k : Fin 24} {s t u : State}

theorem refl (k : Fin 24) (s : State) : AlikeAt k s s := ⟨rfl, rfl, rfl, rfl⟩

theorem trans (h : AlikeAt k s t) (h' : AlikeAt k t u) : AlikeAt k s u := by
  obtain ⟨hframe, hsection, howed, htimer⟩ := h
  obtain ⟨hframe', hsection', howed', htimer'⟩ := h'
  exact ⟨hframe.trans hframe', hsection.trans hsection', howed.trans howed', htimer.trans htimer'⟩

/-! ### Each operation at the section itself, and at another one -/

theorem putSection (h : AlikeAt k t u) (r : SecRun) : AlikeAt k (t.putSection k r) (u.putSection k r) := by
  obtain ⟨hframe, hsection, howed, htimer⟩ := h
  refine ⟨by simpa using hframe, by rw [putSection_get, putSection_get, if_pos rfl, if_pos rfl], ?_, ?_⟩
  · rw [putSection_owed, putSection_owed, hsection]
    split
    · rw [upd_get_self, upd_get_self]
    · exact howed
  · rw [putSection_restoreTimers, putSection_restoreTimers, hsection]
    split
    · rw [upd_get_self, upd_get_self]
    · exact htimer

theorem putSection_other {j : Fin 24} (hne : j ≠ k) (s : State) (r : SecRun) : AlikeAt k (s.putSection j r) s := by
  refine ⟨putSection_butSections .., by rw [putSection_get, if_neg hne], ?_, ?_⟩
  · rw [putSection_owed]
    split
    · exact upd_get_ne _ hne _
    · rfl
  · rw [putSection_restoreTimers]
    split
    · exact upd_get_ne _ hne _
    · rfl

theorem activityAt (h : AlikeAt k t u) (n : Fin 40) : AlikeAt k (t.activityAt n k) (u.activityAt n k) := by
  unfold State.activityAt
  rw [h.2.1, partTime_of_butSections h.1]
  exact h.putSection _

theorem activityAt_other {j : Fin 24} (hne : j ≠ k) (s : State) (n : Fin 40) : AlikeAt k (s.activityAt n j) s :=
  putSection_other hne ..

theorem passageAt (h : AlikeAt k t u) (n : Fin 40) (inward : Bool) :
    AlikeAt k (t.passageAt n k inward) (u.passageAt n k inward) := by
  unfold State.passageAt
  dsimp only
  rw [h.2.1, partTime_of_butSections h.1, tables_of_butSections h.1, allSupervised_congr h.1]
  split_ifs
  · exact h.putSection _
  · exact h.putSection _
  · exact h.activityAt n

theorem passageAt_other {j : Fin 24} (hne : j ≠ k) (s : State) (n : Fin 40) (inward : Bool) :
    AlikeAt k (s.passageAt n j inward) s := by
  unfold State.passageAt
  dsimp only
  split_ifs
  · exact putSection_other hne ..
  · exact putSection_other hne ..
  · exact activityAt_other hne ..

theorem judgeRestore (h : AlikeAt k t u) : AlikeAt k (t.judgeRestore k) (u.judgeRestore k) := by
  unfold State.judgeRestore
  rw [h.2.1, allNormal_congr h.1]
  split
  · exact h.putSection _
  · exact h

theorem judgeRestore_other {j : Fin 24} (hne : j ≠ k) (s : State) : AlikeAt k (s.judgeRestore j) s := by
  unfold State.judgeRestore
  split
  · exact putSection_other hne ..
  · exact refl k s

theorem judgeWarning (h : AlikeAt k t u) : AlikeAt k (t.judgeWarning k) (u.judgeWarning k) := by
  unfold State.judgeWarning
  rw [h.2.1, warningOf_congr h.1]
  exact h.putSection _

theorem sourceEventAt (h : AlikeAt k t u) (n : Fin 40) (e : SourceEvent) :
    AlikeAt k (t.sourceEventAt n e k) (u.sourceEventAt n e k) := by
  unfold State.sourceEventAt
  dsimp only
  rw [h.2.1, partTime_of_butSections h.1, allSupervised_congr h.1]
  split
  · exact (h.putSection _).judgeRestore.judgeWarning
  · exact (h.putSection _).judgeWarning

theorem sourceEventAt_other {j : Fin 24} (hne : j ≠ k) (s : State) (n : Fin 40) (e : SourceEvent) :
    AlikeAt k (s.sourceEventAt n e j) s := by
  have hwarned (t : State) : AlikeAt k (t.judgeWarning j) t := putSection_other hne ..
  unfold State.sourceEventAt
  dsimp only
  split
  · exact (hwarned _).trans ((judgeRestore_other hne _).trans (putSection_other hne ..))
  · exact (hwarned _).trans (putSection_other hne ..)

/-! ### A run of operations, one for each entry -/

section
variable {β : Type} {key : β → Fin 24} {g : State → β → State}

/-- Operations at other sections leave the states alike. -/
theorem foldl_other (hother : ∀ s b, key b ≠ k → AlikeAt k (g s b) s) {l : List β} (hl : ∀ b ∈ l, key b ≠ k) (s : State) :
    AlikeAt k (l.foldl g s) s :=
  foldl_preserves (AlikeAt k · s) g l (fun t b hb ht => (hother t b (hl b hb)).trans ht) s (refl k s)

/-- Of operations at sections all different, the one at `k` alone is what happens there. -/
theorem foldl_once (hother : ∀ s b, key b ≠ k → AlikeAt k (g s b) s)
    (hself : ∀ t u b, key b = k → AlikeAt k t u → AlikeAt k (g t b) (g u b)) {l : List β} (hnodup : (l.map key).Nodup)
    {b : β} (hb : b ∈ l) (hkey : key b = k) (s : State) : AlikeAt k (l.foldl g s) (g s b) := by
  obtain ⟨before, after, rfl⟩ := List.append_of_mem hb
  rw [List.map_append, List.map_cons, List.nodup_middle, List.nodup_cons, List.mem_append, not_or] at hnodup
  have hapart {l : List β} (hl : key b ∉ l.map key) : ∀ d ∈ l, key d ≠ k := fun d hd he =>
    hl (List.mem_map.mpr ⟨d, hd, he.trans hkey.symm⟩)
  rw [List.foldl_append, List.foldl_cons]
  exact (foldl_other hother (hapart hnodup.1.2) _).trans (hself _ _ b hkey (foldl_other hother (hapart hnodup.1.1) s))

end

end State.AlikeAt

/-! ## The three events of a source -/

section
variable {s : State} {n : Fin 40} {k : Fin 24}

theorem State.entries_apart (h : ¬s.bounds n k) : ∀ b ∈ s.tables.entriesOfSource n, b.1 ≠ k := fun b hb hk =>
  h ((s.mem_entries n k).mp ⟨b.2, hk ▸ hb⟩)

theorem State.passage_alike_other (h : ¬s.bounds n k) (d : Direction) : AlikeAt k (s.passage n d) s :=
  AlikeAt.foldl_other (fun s _ hne => AlikeAt.passageAt_other hne s n _) (State.entries_apart h) s

theorem State.activity_alike_other (h : ¬s.bounds n k) : AlikeAt k (s.activity n) s :=
  AlikeAt.foldl_other (fun s _ hne => AlikeAt.activityAt_other hne s n) (State.entries_apart h) s

theorem State.deliver_alike_other (h : ¬s.bounds n k) (e : SourceEvent) : AlikeAt k (s.deliver n e) s :=
  AlikeAt.foldl_other (fun s _ hne => AlikeAt.sourceEventAt_other hne s n e) (State.entries_apart h) s

variable {x : Sense} (hnodup : ((s.tables.entriesOfSource n).map (·.1)).Nodup) (hmem : (k, x) ∈ s.tables.entriesOfSource n)
include hnodup hmem

theorem State.passage_alike (d : Direction) : AlikeAt k (s.passage n d) (s.passageAt n k (x.inward d)) :=
  AlikeAt.foldl_once (fun s _ hne => AlikeAt.passageAt_other hne s n _)
    (fun _ _ _ hkey h => by subst hkey; exact h.passageAt n _) hnodup hmem rfl s

theorem State.activity_alike : AlikeAt k (s.activity n) (s.activityAt n k) :=
  AlikeAt.foldl_once (fun s _ hne => AlikeAt.activityAt_other hne s n)
    (fun _ _ _ hkey h => by subst hkey; exact h.activityAt n) hnodup hmem rfl s

theorem State.deliver_alike (e : SourceEvent) : AlikeAt k (s.deliver n e) (s.sourceEventAt n e k) :=
  AlikeAt.foldl_once (fun s _ hne => AlikeAt.sourceEventAt_other hne s n e)
    (fun _ _ _ hkey h => by subst hkey; exact h.sourceEventAt n e) hnodup hmem rfl s

end

theorem Sense.inward_iff (x : Sense) (d : Direction) :
    x.inward d = true ↔ (x = .intoOnUp ∧ d = .up) ∨ (x = .intoOnDown ∧ d = .down) := by
  cases x <;> cases d <;> simp [Sense.inward]

/-- Settles O40: of a source's entries, at most one names a section, and the operation there is all that reaches it. -/
theorem passagesReachEachBoundedSection : Obligations.PassagesReachEachBoundedSection := by
  unfold Obligations.PassagesReachEachBoundedSection
  refine ⟨fun s k c => ⟨rfl, s.sourceState_head k, rfl, s.sourceState_channel c⟩, fun s n d ev hnodup => ?_,
    fun _ _ i v x f => ⟨upd_get_self v i x, fun j hj => upd_get_ne v (Ne.symm hj) x, tab_get f i⟩⟩
  intro alike
  refine ⟨fun e k hsec hsource => ?_, fun k hk => ?_, State.passage_butSections .., State.activity_butSections ..,
    State.deliver_butSections ..⟩
  · intro inward
    have hmem : (k, s.tables.boundaries[e].sense) ∈ s.tables.entriesOfSource n :=
      (Tables.mem_entriesOfSource ..).mpr ⟨e, hsec, hsource, rfl⟩
    have hinward : inward = s.tables.boundaries[e].sense.inward d := by
      rw [Bool.eq_iff_iff, Sense.inward_iff, decide_eq_true_iff]
    rw [hinward]
    exact ⟨(State.passage_alike hnodup hmem d).2, (State.activity_alike hnodup hmem).2, (State.deliver_alike hnodup hmem ev).2⟩
  · exact ⟨(State.passage_alike_other hk d).2, (State.activity_alike_other hk).2, (State.deliver_alike_other hk ev).2⟩

end Sys2Proof.Machine
end

section
/-! SUPPORT. One operation at one section (R84 to R88, R93 to R101): a passage in or out, wheel activity, a source event,
each as the one record it writes and what that write owes. -/

namespace Sys2Proof.Machine

/-! ## A record written and owed (R103) -/

theorem SecState.not_counting_iff (st : SecState) :
    st.counting = false ↔ st = .off ∨ st = .disturbed ∨ st = .restoreWait := by
  cases st <;> simp [SecState.counting]

theorem SecState.counting_ne {st : SecState} (h : st.counting = true) : st ≠ .off ∧ st ≠ .disturbed ∧ st ≠ .restoreWait := by
  cases st <;> simp_all [SecState.counting]

/-- A reportable change of a section that is not in RESTORE_WAIT: the record, the owed flag, and the latches. -/
theorem State.putSection_owes {s : State} {k : Fin 24} {r : SecRun} (hr : s.sections[k].reportable r = true)
    (hw : s.sections[k].state ≠ .restoreWait) :
    (s.putSection k r).sections = upd s.sections k r ∧ (s.putSection k r).notice.owed = upd s.notice.owed k true ∧
      (s.putSection k r).restoreTimers = s.restoreTimers ∧ (s.putSection k r).butSections = s.butSections := by
  refine ⟨State.putSection_sections .., ?_, ?_, State.putSection_butSections ..⟩
  · rw [State.putSection_owed, if_pos hr]
  · rw [State.putSection_restoreTimers, if_neg fun h => hw h.1]

theorem SecRun.reportable_of_state {r r' : SecRun} (h : r'.state ≠ r.state) : r.reportable r' = true :=
  (r.reportable_iff r').mpr (.inl h)

theorem SecRun.reportable_of_count {r r' : SecRun} (h : r'.count ≠ r.count) : r.reportable r' = true :=
  (r.reportable_iff r').mpr (.inr (.inl h))

/-- A section outside DISTURBED that enters it is reported (R82, R103). -/
theorem SecRun.disturb_reportable {r : SecRun} (h : r.state ≠ .disturbed) (c : Cause) (src : Option (Fin 40)) (now : Time) :
    r.reportable (r.disturb c src now) = true := SecRun.reportable_of_state (Ne.symm h)

/-! ## A passage counted in (R85) -/

section
variable {r : SecRun} {ceiling : Nat} {n : Fin 40} {now : Time}

theorem SecRun.countIn_over (h : ceiling < r.count + 1) : r.countIn ceiling n now = r.disturb .countOver (some n) now := if_pos h

theorem SecRun.countIn_room (h : r.count + 1 ≤ ceiling) : r.countIn ceiling n now =
    { r with count := r.count + 1, inTally := oneMore r.inTally, state := r.state.afterIn,
             swept := r.swept || r.state == .sweep } := by
  rw [SecRun.countIn, if_neg (not_lt.mpr h), satInc_eq]

theorem SecState.afterIn_eq {st : SecState} (h : st.counting = true) : st.afterIn = if st = .sweep then .sweep else .occupied := by
  rw [SecState.counting_iff] at h
  rcases h with rfl | rfl | rfl | rfl <;> rfl

theorem SecRun.countIn_reportable (h : r.state.counting = true) : r.reportable (r.countIn ceiling n now) = true := by
  rcases Nat.lt_or_ge ceiling (r.count + 1) with hover | hroom
  · rw [SecRun.countIn_over hover]
    exact SecRun.disturb_reportable (SecState.counting_ne h).2.1 ..
  · rw [SecRun.countIn_room hroom]
    exact SecRun.reportable_of_count (Nat.succ_ne_self _)

end

section
variable {s : State} {n : Fin 40} {k : Fin 24}

theorem State.passageAt_in (h : s.sections[k].state.counting = true) : s.passageAt n k true =
    s.putSection k (s.sections[k].countIn s.tables.sections[k].ceiling.toNat n s.partTime) := by
  rw [State.passageAt, if_pos h, if_pos rfl]

theorem State.passageAt_out (h : s.sections[k].state.counting = true) : s.passageAt n k false =
    s.putSection k (s.sections[k].countOut (s.allSupervised k) n s.partTime) := by
  rw [State.passageAt, if_pos h, if_neg Bool.false_ne_true]

/-- A passage at a section that does not count is wheel activity (R84). -/
theorem State.passageAt_still (h : s.sections[k].state.counting = false) (inward : Bool) :
    s.passageAt n k inward = s.activityAt n k := by
  rw [State.passageAt, if_neg (by rw [h]; exact Bool.false_ne_true)]

end

/-- Settles O41: the ceiling decides, and either way the change is owed. -/
theorem passagesAreCountedIn : Obligations.PassagesAreCountedIn := by
  unfold Obligations.PassagesAreCountedIn
  intro s n k r t hst
  have hcounting : r.state.counting = true := (SecState.counting_iff _).mpr hst
  obtain ⟨hsections, howed, htimers, hframe⟩ := State.putSection_owes (s := s) (k := k)
    (SecRun.countIn_reportable (ceiling := s.tables.sections[k].ceiling.toNat) (n := n) (now := s.partTime) hcounting)
    (SecState.counting_ne hcounting).2.2
  have ht : t = _ := State.passageAt_in hcounting
  rw [ht, howed, htimers, hframe, hsections]
  refine ⟨fun hover => ?_, fun hroom => ?_, rfl, rfl, rfl⟩
  · rw [SecRun.countIn_over hover]
    rfl
  · rw [SecRun.countIn_room hroom, SecState.afterIn_eq hcounting]

/-! ## A passage counted out (R86 to R88) -/

section
variable {r : SecRun} {b : Bool} {n : Fin 40} {now : Time}

theorem SecRun.countOut_many (h : 2 ≤ r.count) :
    r.countOut b n now = { r with count := r.count - 1, outTally := oneMore r.outTally } := by
  rw [SecRun.countOut, if_neg (by omega), if_neg (by omega), satInc_eq]

theorem SecRun.countOut_last (h : r.count = 1) : r.countOut b n now =
    { r with count := 0, outTally := oneMore r.outTally, state := if b then .clear else .settling, restoreKind := none } := by
  rw [SecRun.countOut, if_neg (by omega), if_pos h, satInc_eq]

theorem SecRun.countOut_absorbed (h : r.count = 0) (hst : r.state = .sweep) :
    r.countOut b n now = { r with absorbed := oneMore r.absorbed } := by
  rw [SecRun.countOut, if_pos h, if_pos hst, satInc_eq]

theorem SecRun.countOut_under (h : r.count = 0) (hst : r.state ≠ .sweep) :
    r.countOut b n now = r.disturb .countUnder (some n) now := by
  rw [SecRun.countOut, if_pos h, if_neg hst]

/-- A passage out of a count above 0 moves the count. -/
theorem SecRun.countOut_count (h : 1 ≤ r.count) : (r.countOut b n now).count = r.count - 1 := by
  rcases Nat.lt_or_ge r.count 2 with hlast | hmany
  · rw [SecRun.countOut_last (by omega)]
    show 0 = r.count - 1
    omega
  · rw [SecRun.countOut_many hmany]

end

/-- Settles O42: the count decides, and at 1 the boundary sources. -/
theorem passagesAreCountedOut : Obligations.PassagesAreCountedOut := by
  unfold Obligations.PassagesAreCountedOut
  refine ⟨fun s n k => ?_, fun s n k => ?_⟩
  · intro r t proven hst hcount
    have hcounting : r.state.counting = true := (SecState.counting_iff _).mpr (by tauto)
    have hproven : proven ↔ s.allSupervised k = true := (s.allSupervised_iff k).symm
    have hmoved : (r.countOut (s.allSupervised k) n s.partTime).count ≠ r.count := by
      rw [SecRun.countOut_count hcount]
      omega
    obtain ⟨hsections, howed, htimers, hframe⟩ :=
      State.putSection_owes (s := s) (k := k) (SecRun.reportable_of_count hmoved) (SecState.counting_ne hcounting).2.2
    have ht : t = _ := State.passageAt_out hcounting
    rw [ht, howed, htimers, hframe, hsections, hproven]
    refine ⟨fun hmany => ?_, fun hlast hsup => ?_, fun hlast hsup => ?_, rfl, rfl, rfl⟩
    · rw [SecRun.countOut_many hmany]
    · rw [SecRun.countOut_last hlast, if_pos hsup]
    · rw [SecRun.countOut_last hlast, if_neg hsup]
  · intro r t hcount
    refine ⟨fun hst => ?_, fun hst => ?_⟩
    · have ht : t = _ := State.passageAt_out (by rw [hst]; rfl)
      rw [ht, SecRun.countOut_absorbed hcount hst, State.putSection_quiet _ _ _ (by simp [SecRun.reportable, r])]
      rfl
    · have hcounting : r.state.counting = true := (SecState.counting_iff _).mpr (.inr hst)
      have ht : t = _ := State.passageAt_out hcounting
      have hsweep : r.state ≠ .sweep := by rcases hst with h | h | h <;> rw [h] <;> decide
      obtain ⟨-, hdist, hwait⟩ := SecState.counting_ne hcounting
      rw [ht, SecRun.countOut_under hcount hsweep]
      exact State.putSection_owes (SecRun.disturb_reportable hdist ..) hwait

/-! ## Wheel activity (R84, R101) -/

section
variable {r : SecRun} {n : Fin 40} {now : Time}

theorem SecRun.activityAt_disturbed (h : r.state = .disturbed) : r.activityAt n now = { r with activity := true } := by
  unfold SecRun.activityAt
  rw [h]

theorem SecRun.activityAt_direct (h : r.state = .restoreWait) (hk : r.restoreKind = some .direct) :
    r.activityAt n now = { r.disturb .restoreAbandoned (some n) now with activity := true } := by
  unfold SecRun.activityAt
  rw [h]
  exact if_pos hk

/-- Activity moves no record in OFF or in a counting state, and none that waits on a sweep. -/
theorem SecRun.activityAt_kept (hd : r.state ≠ .disturbed) (hw : r.state = .restoreWait → r.restoreKind ≠ some .direct) :
    r.activityAt n now = r := by
  unfold SecRun.activityAt
  split
  case h_1 h => exact absurd h hd
  case h_2 h => exact if_neg (hw h)
  all_goals rfl

end

/-- Settles O43: a section that does not count takes a passage as activity; the state decides what activity does. -/
theorem activityIsMarked : Obligations.ActivityIsMarked := by
  unfold Obligations.ActivityIsMarked
  intro s n k inward r t
  have ht : t = s.putSection k (r.activityAt n s.partTime) := rfl
  have hkept (hd : r.state ≠ .disturbed) (hw : r.state = .restoreWait → r.restoreKind ≠ some .direct) : t = s := by
    rw [ht, SecRun.activityAt_kept hd hw]
    exact s.putSection_same k
  refine ⟨fun hst => State.passageAt_still ((SecState.not_counting_iff _).mpr hst) inward, fun hst => ?_, fun hst hkind => ?_,
    fun hst hkind => hkept (by rw [hst]; decide) fun _ => hkind, fun hst => ?_⟩
  · rw [ht, SecRun.activityAt_disturbed hst, State.putSection_quiet _ _ _ (by simp [SecRun.reportable, r])]
    rfl
  · have howes : r.reportable (r.activityAt n s.partTime) = true := by
      rw [SecRun.activityAt_direct hst hkind]
      exact SecRun.reportable_of_state (by rw [hst]; exact SecState.noConfusion)
    have hleaves : (r.activityAt n s.partTime).state ≠ .restoreWait := by
      rw [SecRun.activityAt_direct hst hkind]
      exact SecState.noConfusion
    rw [ht, State.putSection_sections, State.putSection_owed, if_pos howes, State.putSection_restoreTimers,
      if_pos ⟨hst, hleaves⟩, SecRun.activityAt_direct hst hkind]
    exact ⟨rfl, rfl, rfl, State.putSection_butSections ..⟩
  · refine hkept (fun hd => ?_) fun hw => ?_
    · rw [hd] at hst
      exact absurd hst (by decide)
    · rw [hw] at hst
      exact absurd hst (by decide)

/-! ## A source event (R83, R94 to R98, R112) -/

/-- What a source event makes of a section's record, but for the warning flag: the section's own effect, then the restore
unit's judgement of a wait. -/
def State.eventOn (s : State) (n : Fin 40) (e : SourceEvent) (k : Fin 24) (r : SecRun) : SecRun :=
  let r' := r.sourceEvent n e (s.allSupervised k) s.partTime
  if e.toNormal = true ∧ r'.state = .restoreWait ∧ s.allNormal k = true then r'.restored else r'

/-- The same with the warning judged afresh (R100): the record after the whole event. -/
def State.eventWarned (s : State) (n : Fin 40) (e : SourceEvent) (k : Fin 24) (r : SecRun) : SecRun :=
  { s.eventOn n e k r with warning := s.warningOf k (s.eventOn n e k r).state }

theorem State.sourceEventAt_sections (s : State) (n : Fin 40) (e : SourceEvent) (k : Fin 24) :
    (s.sourceEventAt n e k).sections = upd s.sections k (s.eventWarned n e k s.sections[k]) := State.sourceEventAt_get ..

section
variable {s : State} {n : Fin 40} {e : SourceEvent} {k : Fin 24} {r : SecRun}

theorem disturbCause_not_toNormal {c : Cause} (h : disturbCause n e = some c) : e.toNormal = false := by
  cases e with
  | lost a => rfl
  | supervised | late | normal | readmitted | healthChanged => cases h
  | faulty | inTest | returned => rfl

/-- An event that does not leave its source NORMAL has the section's own effect alone. -/
theorem State.eventOn_own (h : e.toNormal = false) :
    s.eventOn n e k r = r.sourceEvent n e (s.allSupervised k) s.partTime :=
  if_neg fun hc => Bool.false_ne_true (h.symm.trans hc.1)

theorem SecRun.sourceEvent_disturbing {c : Cause} (h : disturbCause n e = some c) (b : Bool) (now : Time) :
    r.sourceEvent n e b now = r.disturbing c n now := by
  unfold SecRun.sourceEvent
  rw [h]

theorem State.eventOn_disturbing {c : Cause} (h : disturbCause n e = some c) :
    s.eventOn n e k r = r.disturbing c n s.partTime := by
  rw [State.eventOn_own (disturbCause_not_toNormal h), SecRun.sourceEvent_disturbing h]

theorem SecRun.disturbing_again (h : r.state = .disturbed) (c : Cause) (now : Time) :
    r.disturbing c n now = { r with repeated := true } := by
  unfold SecRun.disturbing
  split
  case h_2 => rfl
  all_goals
    next hst => exact absurd (h.symm.trans hst) nofun

theorem State.eventOn_hold :
    s.eventOn n (.lost .hold) k r = if r.state = .clear then { r with state := .settling } else r := State.eventOn_own rfl

theorem State.eventOn_readmitted :
    s.eventOn n .readmitted k r = if r.state.counting = true then r.disturb .readmit (some n) s.partTime else r :=
  State.eventOn_own rfl

theorem State.eventOn_late : s.eventOn n .late k r = r := State.eventOn_own rfl

theorem State.eventOn_healthChanged : s.eventOn n .healthChanged k r = r := State.eventOn_own rfl

theorem State.eventOn_normal : s.eventOn n .normal k r =
    if r.state = .restoreWait ∧ s.allNormal k = true then r.restored else r := by
  unfold State.eventOn
  simp only [SecRun.sourceEvent, disturbCause, SourceEvent.toNormal, true_and]

theorem State.eventOn_supervised_settling (h : r.state = .settling) :
    s.eventOn n .supervised k r = if s.allSupervised k = true then { r with state := .clear } else r := by
  unfold State.eventOn
  simp only [SecRun.sourceEvent, disturbCause, h, true_and]
  split <;> rw [if_neg (by simp [h])]

theorem State.eventOn_supervised (h : r.state ≠ .settling) : s.eventOn n .supervised k r =
    if r.state = .restoreWait ∧ s.allNormal k = true then r.restored else r := by
  unfold State.eventOn
  simp only [SecRun.sourceEvent, disturbCause, h, false_and, if_false, SourceEvent.toNormal, true_and]

/-- A source that becomes NORMAL at a section that waits on its restore (R112). -/
theorem State.eventOn_wait (he : e = .supervised ∨ e = .normal) (h : r.state = .restoreWait) :
    s.eventOn n e k r = if s.allNormal k = true then r.restored else r := by
  have hsame : s.eventOn n e k r = if r.state = .restoreWait ∧ s.allNormal k = true then r.restored else r := by
    rcases he with rfl | rfl
    · exact State.eventOn_supervised (by rw [h]; decide)
    · exact State.eventOn_normal
  simpa only [h, true_and] using hsame

theorem SecRun.restored_sweep (h : r.restoreKind = some .sweep) : r.restored = { r with state := .sweep, count := 0, swept := false } := by
  rw [SecRun.restored, h]

theorem SecRun.restored_direct (h : r.restoreKind = some .direct) :
    r.restored = { r with state := .clear, count := 0, restoreKind := none } := by
  rw [SecRun.restored, h]

/-! ## What a source event can do to a record, said once -/

/-- The event takes its source out of NORMAL and LATE, or finds it out of them (R94, R95, R97). -/
def SourceEvent.unproves : SourceEvent → Bool
  | .lost _ | .faulty | .inTest | .returned | .readmitted => true
  | .supervised | .late | .normal | .healthChanged => false

/-- The section's own effect: none, the repeat flag, a disturbance, or the way between CLEAR and SETTLING. Only an event
that leaves the source NORMAL or LATE can leave a CLEAR section as it is. -/
theorem SecRun.sourceEvent_cases {P : SecRun → Prop} (r : SecRun) (n : Fin 40) (e : SourceEvent) (b : Bool) (now : Time)
    (kept : (e.unproves = true → r.state ≠ .clear) → P r) (again : r.state = .disturbed → P { r with repeated := true })
    (disturbed : ∀ c, r.state ≠ .off → r.state ≠ .disturbed → P (r.disturb c (some n) now))
    (settling : r.state = .clear → P { r with state := .settling })
    (clear : r.state = .settling → b = true → P { r with state := .clear }) : P (r.sourceEvent n e b now) := by
  have hdisturbing (c : Cause) : P (r.disturbing c n now) := by
    unfold SecRun.disturbing
    split
    case h_1 hst => exact kept fun _ => by rw [hst]; decide
    case h_2 hst => exact again hst
    all_goals
      next hst => exact disturbed c (by rw [hst]; decide) (by rw [hst]; decide)
  cases e with
  | faulty | inTest | returned => exact hdisturbing _
  | late | normal | healthChanged => exact kept nofun
  | lost a =>
    cases a with
    | disturb => exact hdisturbing _
    | hold =>
      show P (if r.state = .clear then { r with state := .settling } else r)
      split
      · next hst => exact settling hst
      · next hst => exact kept fun _ => hst
  | supervised =>
    show P (if r.state = .settling ∧ b = true then { r with state := .clear } else r)
    split
    · next hst => exact clear hst.1 hst.2
    · exact kept nofun
  | readmitted =>
    cases hst : r.state.counting with
    | true =>
      obtain ⟨hoff, hdist, -⟩ := SecState.counting_ne hst
      rw [SecRun.readmitted_counting hst]
      exact disturbed _ hoff hdist
    | false =>
      rw [SecRun.readmitted_still hst]
      exact kept fun _ hclear => by rw [hclear] at hst; cases hst

/-! ## The whole event as two writes, and what it owes (R103) -/

/-- The section's own effect ends in RESTORE_WAIT only where it changes nothing. -/
theorem SecRun.sourceEvent_wait {b : Bool} {now : Time} (h : (r.sourceEvent n e b now).state = .restoreWait) :
    r.sourceEvent n e b now = r := by
  revert h
  refine SecRun.sourceEvent_cases (P := fun r' => r'.state = .restoreWait → r' = r) r n e b now (fun _ _ => rfl) ?_ ?_ ?_ ?_
  · intro hst h
    exact absurd (hst.symm.trans h) nofun
  · exact fun _ _ _ h => nomatch h
  · exact fun _ h => nomatch h
  · exact fun _ _ h => nomatch h

/-- The warning flag is left to its own judgement. -/
theorem State.eventOn_warning : (s.eventOn n e k r).warning = r.warning := by
  have hown (b : Bool) (now : Time) : (r.sourceEvent n e b now).warning = r.warning :=
    SecRun.sourceEvent_cases (P := fun r' => r'.warning = r.warning) r n e b now (fun _ => rfl) (fun _ => rfl)
      (fun _ _ _ => rfl) (fun _ => rfl) (fun _ _ => rfl)
  have hrestored (r : SecRun) : r.restored.warning = r.warning := by
    unfold SecRun.restored
    split <;> rfl
  unfold State.eventOn
  dsimp only
  split
  · rw [hrestored, hown]
  · exact hown ..


theorem State.eventOn_off (h : r.state = .off) : s.eventOn n e k r = r := by
  have hown : r.sourceEvent n e (s.allSupervised k) s.partTime = r :=
    SecRun.sourceEvent_cases (P := (· = r)) r n e _ _ (fun _ => rfl) (fun hst => absurd (h.symm.trans hst) nofun)
      (fun _ hoff _ => absurd h hoff) (fun hst => absurd (h.symm.trans hst) nofun) (fun hst _ => absurd (h.symm.trans hst) nofun)
  unfold State.eventOn
  dsimp only
  rw [hown]
  exact if_neg fun hc => absurd (hc.2.1.symm.trans h) nofun

end

/-- A source event at a section is one write of the record and the judgement of its warning. -/
theorem State.sourceEventAt_eq (s : State) (n : Fin 40) (e : SourceEvent) (k : Fin 24) :
    s.sourceEventAt n e k = (s.putSection k (s.eventOn n e k s.sections[k])).judgeWarning k := by
  have hjudged : (if e.toNormal = true then
        (s.putSection k (s.sections[k].sourceEvent n e (s.allSupervised k) s.partTime)).judgeRestore k
      else s.putSection k (s.sections[k].sourceEvent n e (s.allSupervised k) s.partTime)) =
        s.putSection k (s.eventOn n e k s.sections[k]) := by
    unfold State.eventOn State.judgeRestore
    rw [State.putSection_get, if_pos rfl, State.allNormal_congr (State.putSection_butSections ..)]
    by_cases hgo : (s.sections[k].sourceEvent n e (s.allSupervised k) s.partTime).state = .restoreWait ∧ s.allNormal k = true
    · have hkept := SecRun.sourceEvent_wait hgo.1
      rw [hkept] at hgo ⊢
      rw [State.putSection_same, if_pos hgo]
      by_cases he : e.toNormal = true
      · rw [if_pos he, if_pos ⟨he, hgo⟩]
      · rw [if_neg he, if_neg fun h => he h.1, State.putSection_same]
    · rw [if_neg hgo, ite_self, if_neg fun h => hgo h.2]
  unfold State.sourceEventAt
  exact congrArg (State.judgeWarning · k) hjudged

/-- A change of the record and then of its warning is reported when either is. -/
theorem SecRun.reportable_warned {r r' : SecRun} (h : r'.warning = r.warning) (w : Bool) :
    r.reportable { r' with warning := w } = (r.reportable r' || r'.reportable { r' with warning := w }) := by
  simp [SecRun.reportable, h]

theorem State.sourceEventAt_owed (s : State) (n : Fin 40) (e : SourceEvent) (k : Fin 24) :
    (s.sourceEventAt n e k).notice.owed =
      if s.sections[k].reportable (s.eventWarned n e k s.sections[k]) = true then upd s.notice.owed k true
      else s.notice.owed := by
  have hreports : s.sections[k].reportable (s.eventWarned n e k s.sections[k]) =
      (s.sections[k].reportable (s.eventOn n e k s.sections[k]) ||
        (s.eventOn n e k s.sections[k]).reportable (s.eventWarned n e k s.sections[k])) :=
    SecRun.reportable_warned State.eventOn_warning _
  rw [hreports, State.sourceEventAt_eq, State.judgeWarning, State.putSection_owed, State.putSection_owed,
    State.putSection_get, if_pos rfl, State.warningOf_congr (State.putSection_butSections ..), ← State.eventWarned]
  cases s.sections[k].reportable (s.eventOn n e k s.sections[k]) with
  | true => simp only [Bool.true_or, if_true, upd_upd, ite_self]
  | false => simp only [Bool.false_or, Bool.false_eq_true, if_false]

theorem sourceHead_isSome (n : Fin 40) : (sourceHead n).isSome = decide (n.val < 32) := by
  unfold sourceHead
  split <;> simp_all

/-- Settles O44: the record each event leaves, the warning judged from the boundary sources, and what is owed. -/
theorem sourceEventsActOnSections : Obligations.SourceEventsActOnSections := by
  unfold Obligations.SourceEventsActOnSections
  intro s n k e r t isHead cause proven allNormal becomes
  have hproven : proven ↔ s.allSupervised k = true := (s.allSupervised_iff k).symm
  have hnormal : allNormal ↔ s.allNormal k = true := (s.allNormal_iff k).symm
  have hsections : t.sections = upd s.sections k (s.eventWarned n e k r) := s.sourceEventAt_sections n e k
  have hself : t.sections[k] = s.eventWarned n e k r := by rw [hsections, upd_get_self]
  have hbecomes {g : SecRun} (h : s.eventOn n e k r = g) : becomes g := by
    have hg : t.sections = upd s.sections k { g with warning := t.sections[k].warning } := by
      rw [hself, hsections, State.eventWarned, h]
    exact hg
  have hcause {c : Cause} (h : cause = some c) : disturbCause n e = some c ∨
      (e = .readmitted ∧ c = .readmit ∧ r.state ≠ .restoreWait ∧ r.state ≠ .disturbed) := by
    have hhead : (sourceHead n).isSome = true ↔ isHead := by rw [sourceHead_isSome, decide_eq_true_iff]
    cases e with
    | faulty => exact .inl ((congrArg some (if_congr hhead rfl rfl)).trans h)
    | inTest | returned => exact .inl h
    | lost a =>
      cases a with
      | disturb => exact .inl ((congrArg some (if_congr hhead rfl rfl)).trans h)
      | hold => exact absurd (show (none : Option Cause) = some c from h) nofun
    | supervised | late | normal | healthChanged => exact absurd (show (none : Option Cause) = some c from h) nofun
    | readmitted =>
      have hreadmitted : (if r.state = .restoreWait ∨ r.state = .disturbed then none else some Cause.readmit) = some c := h
      split at hreadmitted
      · cases hreadmitted
      · next hst =>
        obtain ⟨hwait, hdist⟩ := not_or.mp hst
        cases hreadmitted
        exact .inr ⟨rfl, rfl, hwait, hdist⟩
  have howed : t.notice.owed = _ := s.sourceEventAt_owed n e k
  refine ⟨fun hst => hbecomes (State.eventOn_off hst), fun c hc hst => hbecomes ?_, fun c hc hoff hdist => hbecomes ?_,
    fun he hst => hbecomes ?_, fun he hst => hbecomes ?_, fun he hst hsup => hbecomes ?_, fun he hst hsup => hbecomes ?_,
    fun he hst hgo => ⟨fun hkind => hbecomes ?_, fun hkind => hbecomes ?_⟩, fun he hst hgo => hbecomes ?_,
    fun he hset hwait => hbecomes ?_, fun he hst => hbecomes ?_, fun he hst => hbecomes ?_, fun he => hbecomes ?_, ?_,
    State.sourceEventAt_butSections .., fun hmoved => ?_, fun h1 h2 h3 h4 h5 => ?_⟩
  · rcases hcause hc with hd | ⟨-, -, -, hdist⟩
    · rw [State.eventOn_disturbing hd, SecRun.disturbing_again hst]
    · exact absurd hst hdist
  · rcases hcause hc with hd | ⟨rfl, rfl, hwait, -⟩
    · rw [State.eventOn_disturbing hd, SecRun.disturbing_other hoff hdist]
      rfl
    · have hcounting : r.state.counting = true := by
        rw [← Bool.not_eq_false, SecState.not_counting_iff]
        tauto
      rw [State.eventOn_readmitted, if_pos hcounting]
      rfl
  · rw [he, State.eventOn_hold, if_pos hst]
  · rw [he, State.eventOn_hold, if_neg hst]
  · rw [he, State.eventOn_supervised_settling hst, if_pos (hproven.mp hsup)]
  · rw [he, State.eventOn_supervised_settling hst, if_neg (mt hproven.mpr hsup)]
  · rw [State.eventOn_wait he hst, if_pos (hnormal.mp hgo), SecRun.restored_sweep hkind]
  · rw [State.eventOn_wait he hst, if_pos (hnormal.mp hgo), SecRun.restored_direct hkind]
  · rw [State.eventOn_wait he hst, if_neg (mt hnormal.mpr hgo)]
  · rw [he, State.eventOn_supervised hset, if_neg fun h => hwait h.1]
  · rw [he, State.eventOn_normal, if_neg fun h => hst h.1]
  · have hstill : r.state.counting = false := (SecState.not_counting_iff _).mpr (.inr hst.symm)
    rw [he, State.eventOn_readmitted, if_neg (by rw [hstill]; exact Bool.false_ne_true)]
  · rcases he with rfl | rfl
    · exact State.eventOn_late
    · exact State.eventOn_healthChanged
  · rw [hself]
    exact s.warningOf_iff k _
  · rw [hself] at hmoved
    rw [howed, if_pos ((SecRun.reportable_iff _ _).mpr hmoved)]
  · rw [hself] at h1 h2 h3 h4 h5
    refine howed.trans (if_neg fun hr => ?_)
    rcases (SecRun.reportable_iff _ _).mp hr with h | h | h | h | h
    · exact h h1
    · exact h h2
    · exact h h3
    · exact h h4
    · exact h h5

end Sys2Proof.Machine
end

section
/-! SUPPORT. What a section's record is judged against besides itself, and that every change of a source's state is told to
the sections it bounds (R40, R137). -/

namespace Sys2Proof.Machine

/-! ## What a section's record is judged against -/

/-- The two states agree in all that a section's record is judged against. -/
structure State.SameContext (s t : State) : Prop where
  mode : t.mode = s.mode
  tables : t.tables = s.tables
  states : ∀ n, t.sourceState n = s.sourceState n
  troubles : ∀ n, t.troubles n ↔ s.troubles n

/-- The same but for one source. -/
structure State.MovedAt (s t : State) (n : Fin 40) : Prop where
  mode : t.mode = s.mode
  tables : t.tables = s.tables
  states : ∀ m, m ≠ n → t.sourceState m = s.sourceState m
  troubles : ∀ m, m ≠ n → (t.troubles m ↔ s.troubles m)

section
variable {s t v : State} {n : Fin 40} {k : Fin 24}

theorem State.SameContext.refl (s : State) : s.SameContext s := ⟨rfl, rfl, fun _ => rfl, fun _ => Iff.rfl⟩

theorem State.SameContext.movedAt (h : s.SameContext t) (n : Fin 40) : s.MovedAt t n :=
  ⟨h.mode, h.tables, fun m _ => h.states m, fun m _ => h.troubles m⟩

theorem State.MovedAt.sameContext (h : s.MovedAt t n) (hstate : t.sourceState n = s.sourceState n)
    (htrouble : t.troubles n ↔ s.troubles n) : s.SameContext t := by
  refine ⟨h.mode, h.tables, fun m => ?_, fun m => ?_⟩ <;> by_cases hm : m = n
  · rw [hm, hstate]
  · exact h.states m hm
  · rw [hm, htrouble]
  · exact h.troubles m hm

theorem State.troubles_congr (hheads : t.heads = s.heads) (hchannels : t.channels = s.channels) (n : Fin 40) :
    t.troubles n ↔ s.troubles n := by
  rw [State.troubles, State.troubles, State.sourceState_congr hheads hchannels, hheads]

theorem State.SameContext.of_records (hmode : t.mode = s.mode) (htables : t.tables = s.tables) (hheads : t.heads = s.heads)
    (hchannels : t.channels = s.channels) : s.SameContext t :=
  ⟨hmode, htables, State.sourceState_congr hheads hchannels, State.troubles_congr hheads hchannels⟩

theorem State.SameContext.of_butSections (h : t.butSections = s.butSections) : s.SameContext t :=
  .of_records (State.mode_of_butSections h) (State.tables_of_butSections h) (State.heads_of_butSections h)
    (State.channels_of_butSections h)

/-! ### One source's record changes -/

theorem State.troubles_head (s : State) (k : Fin 32) : s.troubles (headSource k) ↔
    s.heads[k].state = .late ∨ s.heads[k].healthA = .degraded ∨ s.heads[k].healthB = .degraded := by
  rw [State.troubles, State.sourceState_head]
  refine or_congr_right ⟨?_, fun h => ⟨k, rfl, h⟩⟩
  rintro ⟨j, hj, h⟩
  rwa [← headSource_inj.mp hj]

theorem State.troubles_channel (s : State) (c : Fin 8) : s.troubles (channelSource c) ↔ s.channels[c].state = .late := by
  rw [State.troubles, State.sourceState_channel]
  refine or_iff_left ?_
  rintro ⟨j, hj, -⟩
  exact headSource_ne_channelSource j c hj

theorem State.MovedAt.of_head {j : Fin 32} {r : HeadRun} (hmode : t.mode = s.mode) (htables : t.tables = s.tables)
    (hheads : t.heads = upd s.heads j r) (hchannels : t.channels = s.channels) : s.MovedAt t (headSource j) := by
  have hother {i : Fin 32} (hi : headSource i ≠ headSource j) : t.heads[i] = s.heads[i] := by
    rw [hheads, upd_get_ne _ (ne_of_apply_ne headSource hi).symm]
  refine ⟨hmode, htables, fun m hm => ?_, fun m hm => ?_⟩ <;> rcases source_cases m with ⟨i, rfl⟩ | ⟨c, rfl⟩
  · rw [State.sourceState_head, State.sourceState_head, hother hm]
  · rw [State.sourceState_channel, State.sourceState_channel, hchannels]
  · rw [State.troubles_head, State.troubles_head, hother hm]
  · rw [State.troubles_channel, State.troubles_channel, hchannels]

theorem State.MovedAt.of_channel {c : Fin 8} {r : Channel} (hmode : t.mode = s.mode) (htables : t.tables = s.tables)
    (hheads : t.heads = s.heads) (hchannels : t.channels = upd s.channels c r) : s.MovedAt t (channelSource c) := by
  have hother {d : Fin 8} (hd : channelSource d ≠ channelSource c) : t.channels[d] = s.channels[d] := by
    rw [hchannels, upd_get_ne _ (ne_of_apply_ne channelSource hd).symm]
  refine ⟨hmode, htables, fun m hm => ?_, fun m hm => ?_⟩ <;> rcases source_cases m with ⟨i, rfl⟩ | ⟨d, rfl⟩
  · rw [State.sourceState_head, State.sourceState_head, hheads]
  · rw [State.sourceState_channel, State.sourceState_channel, hother hm]
  · rw [State.troubles_head, State.troubles_head, hheads]
  · rw [State.troubles_channel, State.troubles_channel, hother hm]

/-- A head's record that changes in neither state nor health changes nothing for the sections. -/
theorem State.SameContext.of_head {j : Fin 32} {r : HeadRun} (hmode : t.mode = s.mode) (htables : t.tables = s.tables)
    (hheads : t.heads = upd s.heads j r) (hchannels : t.channels = s.channels) (hstate : r.state = s.heads[j].state)
    (hA : r.healthA = s.heads[j].healthA) (hB : r.healthB = s.heads[j].healthB) : s.SameContext t := by
  have hself : t.heads[j] = r := by rw [hheads, upd_get_self]
  refine (State.MovedAt.of_head hmode htables hheads hchannels).sameContext ?_ ?_
  · rw [State.sourceState_head, State.sourceState_head, hself, hstate]
  · rw [State.troubles_head, State.troubles_head, hself, hstate, hA, hB]

theorem State.eventWarned_congr (h : t.butSections = s.butSections) (e : SourceEvent) (r : SecRun) :
    t.eventWarned n e k r = s.eventWarned n e k r := by
  simp only [State.eventWarned, State.eventOn, State.allSupervised_congr h, State.allNormal_congr h,
    State.warningOf_congr h, State.partTime_of_butSections h]

end

/-! ## Which changes of a source are told to the sections (R40, R137) -/

/-- A head that changes its state tells the sections. -/
def SourceState.Tells (old new : SourceState) : Prop := ∀ a, headEvent old new a = none → new = old

theorem SourceState.Tells.refl (st : SourceState) : st.Tells st := fun _ _ => rfl

section
variable {old : SourceState}

theorem SourceState.chained.tells_normal (h : old.chained) : old.Tells .normal := by
  rcases h with rfl | rfl | rfl
  · exact .refl _
  · exact fun _ he => nomatch he
  · exact fun _ he => nomatch he

theorem SourceState.chained.tells_faulty (h : old.chained) : old.Tells .faulty := by
  rcases h with rfl | rfl | rfl <;> exact fun _ he => nomatch he

theorem SourceState.testable.tells_inTest (h : old.testable) : old.Tells .inTest := by
  rcases h with rfl | rfl | rfl | rfl <;> exact fun _ he => nomatch he

theorem SourceState.chained.tells_expiry (h : old.chained) (n g : Nat) : old.Tells (lateOrLost old n g) := by
  unfold lateOrLost
  split
  · next hlost =>
    rw [hlost]
    exact .refl _
  · next hlost =>
    rcases h with rfl | rfl | rfl
    · split <;> exact fun _ he => nomatch he
    · split
      · exact .refl _
      · exact fun _ he => nomatch he
    · exact absurd rfl hlost

end

/-- The checks of an accepted LIFE end in FAULTY, in IN_TEST, or with the state as it stood (R28). -/
theorem HeadRun.lifeChecks_state (h : HeadRun) (f : LifeFields) (now : Time) :
    (h.lifeChecks f now).state = .faulty ∨ (h.lifeChecks f now).state = .inTest ∨ (h.lifeChecks f now).state = h.state := by
  unfold HeadRun.lifeChecks
  dsimp only
  split_ifs
  · exact .inl rfl
  · exact .inl rfl
  · exact .inl rfl
  · exact .inr (.inl rfl)
  · exact .inr (.inr rfl)

/-- What a LIFE makes of a head's state is told (R24 to R28, R38, R40). -/
theorem HeadRun.life_tells (h : HeadRun) (f : LifeFields) (now : Time) (t : Timer) : h.state.Tells (h.life f now t).state := by
  have hchained (hc : h.state.chained) : h.state.Tells (h.life f now t).state := by
    cases hj : judgeSeq h.expected f.seq with
    | repeated => rw [HeadRun.life_repeated hc hj]; exact .refl _
    | gap => rw [HeadRun.life_gap hc hj]; exact hc.tells_faulty
    | next =>
      rw [HeadRun.life_sequence hc hj]
      rcases (h.accept f.seq t).lifeChecks_state f now with hst | hst | hst <;> rw [hst]
      · exact hc.tells_faulty
      · exact SourceState.testable.tells_inTest (.inr hc)
      · exact hc.tells_normal
  have hwaiting (hw : h.state = .awaiting ∨ h.state = .inTest) : h.state.Tells (h.life f now t).state := by
    rw [HeadRun.life_waiting hw]
    unfold HeadRun.attempt
    split_ifs with hadopts htest
    · show h.state.Tells .normal
      rcases hw with hw | hw <;> (rw [hw]; exact fun _ he => nomatch he)
    · exact SourceState.testable.tells_inTest (.inl htest.2)
    · exact .refl _
  cases hst : h.state with
  | awaiting => exact hst ▸ hwaiting (.inl hst)
  | inTest => exact hst ▸ hwaiting (.inr hst)
  | normal => exact hst ▸ hchained (.inl hst)
  | late => exact hst ▸ hchained (.inr (.inl hst))
  | lost => exact hst ▸ hchained (.inr (.inr hst))
  | off => rw [HeadRun.life_deaf (.inl hst), hst]; exact .refl _
  | faulty => rw [HeadRun.life_deaf (.inr hst), hst]; exact .refl _

/-- An event of a head that ends out of NORMAL and LATE says so. -/
theorem headEvent_unproves {old new : SourceState} {a : LossAction} {e : SourceEvent} (h : headEvent old new a = some e) :
    new.supervised = true ∨ e.unproves = true := by
  unfold headEvent at h
  split at h <;> cases h <;> simp [SourceState.supervised, SourceEvent.unproves]

/-- A channel that changes its state tells the sections. -/
def SourceState.ChannelTells (old new : SourceState) : Prop := ∀ a, channelEvent old new a = none → new = old

section
variable {old : SourceState}

theorem SourceState.chained.channelTells_normal (h : old.chained) : old.ChannelTells .normal := by
  rcases h with rfl | rfl | rfl
  · exact fun _ _ => rfl
  · exact fun _ he => nomatch he
  · exact fun _ he => nomatch he

theorem SourceState.chained.channelTells_faulty (h : old.chained) : old.ChannelTells .faulty := by
  rcases h with rfl | rfl | rfl <;> exact fun _ he => nomatch he

theorem SourceState.chained.channelTells_awaiting (h : old.chained) : old.ChannelTells .awaiting := by
  rcases h with rfl | rfl | rfl <;> exact fun _ he => nomatch he

theorem SourceState.chained.channelTells_expiry (h : old.chained) (n g : Nat) : old.ChannelTells (lateOrLost old n g) := by
  unfold lateOrLost
  split
  · next hlost => exact fun _ _ => hlost.symm
  · next hlost =>
    rcases h with rfl | rfl | rfl
    · split <;> exact fun _ he => nomatch he
    · split
      · exact fun _ _ => rfl
      · exact fun _ he => nomatch he
    · exact absurd rfl hlost

end

/-- What a RELAY frame makes of a channel's state is told (R134, R137). -/
theorem Channel.frame_tells (c : Channel) (q : Byte) (st : OriginStatus) (t : Timer) :
    c.state.ChannelTells (c.frame q st t).state := by
  unfold Channel.frame
  split
  case h_1 hst =>
    cases st with
    | normal => rw [hst]; exact fun _ he => nomatch he
    | awaiting | faulty => exact fun _ _ => rfl
  case h_2 hst | h_3 hst | h_4 hst =>
    have hc : c.state.chained := by rw [hst]; simp [SourceState.chained]
    split
    · exact fun _ _ => rfl
    · exact hc.channelTells_faulty
    · cases st with
      | normal => exact hc.channelTells_normal
      | awaiting => exact hc.channelTells_awaiting
      | faulty => exact hc.channelTells_faulty
  all_goals exact fun _ _ => rfl

theorem channelEvent_unproves {old new : SourceState} {a : LossAction} {e : SourceEvent}
    (h : channelEvent old new a = some e) : new.supervised = true ∨ e.unproves = true := by
  unfold channelEvent at h
  split at h <;> cases h <;> simp [SourceState.supervised, SourceEvent.unproves]

end Sys2Proof.Machine
end

section
/-! SUPPORT. A condition on every section's record along every event. The events reach a section through few operations on
its record; a condition that each of them keeps (`SectionRule`) is kept by every step. -/

namespace Sys2Proof.Machine

/-! ## The operations a condition must be kept by -/

/-- The section's ceiling lies in the range of 1.4 (R90). -/
def State.ceilingFits (s : State) (k : Fin 24) : Prop :=
  1 ≤ s.tables.sections[k].ceiling.toNat ∧ s.tables.sections[k].ceiling.toNat ≤ 4095

theorem State.ceilingFits.of_tables {s t : State} {k : Fin 24} (h : t.tables = s.tables) (hfits : s.ceilingFits k) :
    t.ceilingFits k := by
  rw [State.ceilingFits, h]
  exact hfits

/-- The condition holds of every section's record. -/
def State.EachSection (good : State → Fin 24 → SecRun → Prop) (s : State) : Prop := ∀ k : Fin 24, good s k s.sections[k]

/-- A condition on a section's record, read in the context of the state, that every operation on a record keeps. -/
structure SectionRule (good : State → Fin 24 → SecRun → Prop) : Prop where
  /-- it looks at nothing outside the context -/
  congr {s t : State} {k : Fin 24} {r : SecRun} : s.SameContext t → good s k r → good t k r
  /-- in CONFIG every section is OFF (R79) -/
  configOff {s : State} {k : Fin 24} {r : SecRun} : good s k r → s.mode = .config → r.state = .off
  /-- of a section in OFF it asks nothing of the context but the range of the ceiling -/
  off {s t : State} {k : Fin 24} {r : SecRun} : good s k r → r.state = .off → (s.ceilingFits k → t.ceilingFits k) → good t k r
  /-- a source's change leaves a section it does not bound as it is -/
  unreached {s t : State} {n : Fin 40} {k : Fin 24} {r : SecRun} :
    s.MovedAt t n → ¬s.bounds n k → good s k r → good t k r
  /-- an event that tells of the change restores it, whatever an earlier event made of the warning -/
  told {s t : State} {n : Fin 40} {e : SourceEvent} {k : Fin 24} {r : SecRun} (w : Bool) : s.MovedAt t n →
    (t.sourceState n = s.sourceState n ∨ (t.sourceState n).supervised = true ∨ e.unproves = true) → good s k r →
    good t k (t.eventWarned n e k { r with warning := w })
  countIn {s : State} {k : Fin 24} {r : SecRun} (n : Fin 40) : good s k r → r.state.counting = true →
    good s k (r.countIn s.tables.sections[k].ceiling.toNat n s.partTime)
  countOut {s : State} {k : Fin 24} {r : SecRun} (n : Fin 40) : good s k r → r.state.counting = true →
    good s k (r.countOut (s.allSupervised k) n s.partTime)
  activity {s : State} {k : Fin 24} {r : SecRun} (n : Fin 40) : good s k r → good s k (r.activityAt n s.partTime)
  restored {s : State} {k : Fin 24} {r : SecRun} : good s k r → r.state = .restoreWait → s.allNormal k = true →
    good s k r.restored
  /-- cancel and timeout of a restore -/
  ended {s : State} {k : Fin 24} {r : SecRun} (c : Cause) : good s k r → r.state = .restoreWait ∨ r.state = .sweep →
    good s k (r.disturb c none s.partTime)
  accepted {s : State} {k : Fin 24} {r : SecRun} (kind : RestoreKind) : good s k r → r.state = .disturbed →
    good s k (r.acceptRestore kind)
  toConfig {s : State} {k : Fin 24} {r : SecRun} : good s k r → good s k r.enterConfig
  reset {s : State} {k : Fin 24} {r : SecRun} : good s k r → good s k .reset
  /-- RUN entry of a section in use, its warning judged -/
  entered {s : State} {k : Fin 24} {r : SecRun} (c : Cause) (now : Time) : good s k r → r.state = .off → s.mode = .run →
    good s k { r.enterRun true c now with warning := s.warningOf k .disturbed }
  /-- RUN entry of a section not in use -/
  unused {s : State} {k : Fin 24} {r : SecRun} (c : Cause) (now : Time) : good s k r → r.state = .off →
    good s k (r.enterRun false c now)

theorem State.runEntry_tables (s : State) (c : Cause) : (s.runEntry c).tables = s.tables := by
  unfold State.runEntry
  rfl

theorem State.runEntry_mode (s : State) (c : Cause) : (s.runEntry c).mode = s.mode := by
  unfold State.runEntry
  rfl

theorem State.judgeWarnings_sameContext (s : State) : s.SameContext s.judgeWarnings := by
  have hmode : s.judgeWarnings.mode = s.mode := by
    unfold State.judgeWarnings
    rfl
  have htables : s.judgeWarnings.tables = s.tables := by
    unfold State.judgeWarnings
    rfl
  exact .of_records hmode htables s.judgeWarnings_heads s.judgeWarnings_channels

/-! ## A written ceiling is in range (R168, R90) -/

/-- The records of a WRITE that is taken are each read from their bytes. -/
theorem parseRecords_forall {α : Type} {Q : α → Prop} {size : Nat} {parse : List Byte → Except Nat α}
    (hparse : ∀ bs r, parse bs = .ok r → Q r) (count : Nat) :
    ∀ (i : Nat) (bs : List Byte) (rs : List α), parseRecords size parse i count bs = .ok rs → ∀ r ∈ rs, Q r := by
  induction count with
  | zero =>
    intro i bs rs h
    cases h
    exact nofun
  | succ count ih =>
    intro i bs rs h
    unfold parseRecords at h
    split at h
    · cases h
    next r hr =>
    split at h
    · cases h
    next rest hrest =>
    cases h
    exact List.forall_mem_cons.mpr ⟨hparse _ r hr, ih _ _ rest hrest⟩

theorem SectionRec.parse_ceiling {bs : List Byte} {r : SectionRec} (h : SectionRec.parse bs = .ok r) :
    1 ≤ r.ceiling.toNat ∧ r.ceiling.toNat ≤ 4095 := by
  unfold SectionRec.parse readRecord firstBad at h
  split at h
  · cases h
  next hchecks =>
  cases h
  rw [Option.map_eq_none_iff, List.find?_eq_none] at hchecks
  have hceiling := hchecks (1, inRange 1 4095 (halfAt bs 1).toNat) (by simp)
  simpa only [inRange, Bool.not_eq_true, Bool.not_eq_false', Bool.and_eq_true, decide_eq_true_eq] using hceiling

theorem Except.map_ok {ε α β : Type} {x : Except ε α} {f : α → β} {b : β} (h : x.map f = .ok b) : ∃ a, x = .ok a ∧ f a = b := by
  cases x with
  | error e => cases h
  | ok a =>
    cases h
    exact ⟨a, rfl, rfl⟩

/-- A WRITE that is taken leaves every ceiling in range that was, and spells none out of it. -/
theorem Tables.write_ceiling {t t' : Tables} {id : TableId} {first count : Nat} {bs : List Byte}
    (h : t.write id first count bs = .ok t') (k : Fin 24)
    (hk : 1 ≤ t.sections[k].ceiling.toNat ∧ t.sections[k].ceiling.toNat ≤ 4095) :
    1 ≤ t'.sections[k].ceiling.toNat ∧ t'.sections[k].ceiling.toNat ≤ 4095 := by
  unfold Tables.write at h
  cases id with
  | part | head | relay | boundary | filter | line =>
    obtain ⟨rs, -, rfl⟩ := Except.map_ok h
    dsimp only
    exact hk
  | sec =>
    obtain ⟨rs, hrs, rfl⟩ := Except.map_ok h
    have hread := parseRecords_forall (fun _ _ => SectionRec.parse_ceiling) count 0 bs rs hrs
    have hrecord : (replaceFrom t.sections first rs)[k] = t.sections[k] ∨ (replaceFrom t.sections first rs)[k] ∈ rs := by
      unfold replaceFrom
      rw [tab_get]
      split
      · rw [List.getD_eq_getElem?_getD]
        cases hget : rs[k.val - first]? with
        | none => exact .inl rfl
        | some r => exact .inr (List.mem_of_getElem? hget)
      · exact .inl rfl
    dsimp only
    generalize (replaceFrom t.sections first rs)[k] = r at hrecord ⊢
    rcases hrecord with rfl | hmem
    · exact hk
    · exact hread r hmem

theorem State.judgeWrite_ceilingFits {s : State} {p : List Byte} {id : TableId} {t : Tables}
    (h : s.judgeWrite p = .ok (id, t)) (k : Fin 24) (hk : s.ceilingFits k) : (s.setTables t).ceilingFits k := by
  unfold State.judgeWrite at h
  split at h
  · cases h
  split at h
  · cases h
  dsimp only at h
  split at h
  · cases h
  split at h
  · cases h
  split at h
  · cases h
  · next hwrite =>
    cases h
    exact Tables.write_ceiling hwrite k hk

theorem State.linesAfterWrite_sameContext (s : State) (id : TableId) (p : List Byte) :
    s.SameContext (s.linesAfterWrite id p) := by
  cases id <;> exact .of_records rfl rfl rfl rfl

theorem State.linesAfterWrite_sections (s : State) (id : TableId) (p : List Byte) :
    (s.linesAfterWrite id p).sections = s.sections := by
  cases id <;> rfl

/-! ## The checks a restore or its end has passed -/

theorem State.restoreChecks_disturbed {s : State} {kind : RestoreKind} {k : Fin 24} (h : s.restoreChecks kind k = none) :
    s.sections[k].state = .disturbed := by
  unfold State.restoreChecks at h
  split_ifs at h with _ _ hst
  exact not_not.mp hst

theorem State.judgeRestoreOrder_disturbed {s : State} {kind : RestoreKind} {n : Nat} {k : Fin 24}
    (h : s.judgeRestoreOrder kind n = .accepted k) : s.sections[k].state = .disturbed := by
  unfold State.judgeRestoreOrder at h
  split at h
  · cases h
  split at h
  · cases h
  split at h
  · cases h
  · next hchecks =>
    cases h
    exact State.restoreChecks_disturbed hchecks

theorem State.judgeCancel_restoring {s : State} {n : Nat} {k : Fin 24} (h : s.judgeCancel n = .accepted k) :
    s.sections[k].state = .restoreWait ∨ s.sections[k].state = .sweep := by
  unfold State.judgeCancel at h
  split at h
  · cases h
  split at h
  · cases h
  split at h
  · next hst =>
    cases h
    exact hst
  · cases h

/-! ## What a change of a source does to the sections before it is told whole -/

/-- The sections of `t` are those of `s`, but for the warnings of those the source bounds. -/
structure State.SectionsKept (s t : State) (n : Fin 40) : Prop where
  bounded : ∀ k : Fin 24, ∃ w, t.sections[k] = { s.sections[k] with warning := w }
  others : ∀ k : Fin 24, ¬s.bounds n k → t.sections[k] = s.sections[k]

theorem State.SectionsKept.of_eq {s t : State} (h : t.sections = s.sections) (n : Fin 40) : s.SectionsKept t n :=
  ⟨fun k => ⟨s.sections[k].warning, by rw [h]⟩, fun k _ => by rw [h]⟩

/-- A change of health tells the sections' warnings alone (R100). -/
theorem State.SectionsKept.healthChanged {s t : State} {n : Fin 40} (htables : t.tables = s.tables) (h : s.SectionsKept t n) :
    s.SectionsKept (t.deliver n .healthChanged) n := by
  refine ⟨fun k => ?_, fun k hk => ?_⟩
  · refine State.deliver_preserves (P := fun u => ∃ w, u.sections[k] = { s.sections[k] with warning := w })
      (fun u j hu => ?_) t (h.bounded k)
    by_cases hjk : k = j
    · subst hjk
      obtain ⟨w, hw⟩ := hu
      rw [State.sourceEventAt_sections, upd_get_self, State.eventWarned, State.eventOn_healthChanged, hw]
      exact ⟨_, rfl⟩
    · rw [State.sourceEventAt_other u n _ hjk]
      exact hu
  · rw [State.deliver_other _ _ _ (mt (State.bounds_congr htables n k).mp hk)]
    exact h.others k hk

/-! ## Every event keeps the condition -/

namespace SectionRule

variable {good : State → Fin 24 → SecRun → Prop} (R : SectionRule good)
variable {s t : State}
include R

theorem same (h : s.EachSection good) (hsections : t.sections = s.sections) (hcontext : s.SameContext t) :
    t.EachSection good := fun k => by
  rw [hsections]
  exact R.congr hcontext (h k)

/-- Sections, mode, tables, heads and channels are left as they are. -/
theorem untouched (h : s.EachSection good) (hsections : t.sections = s.sections := by rfl)
    (hmode : t.mode = s.mode := by rfl) (htables : t.tables = s.tables := by rfl) (hheads : t.heads = s.heads := by rfl)
    (hchannels : t.channels = s.channels := by rfl) : t.EachSection good :=
  R.same h hsections (.of_records hmode htables hheads hchannels)

theorem putSection (h : s.EachSection good) {k : Fin 24} {r : SecRun} (hr : good s k r) :
    (s.putSection k r).EachSection good := fun j => by
  refine R.congr (State.SameContext.of_butSections (State.putSection_butSections s k r)) ?_
  rw [State.putSection_get]
  split
  · next hkj => exact hkj ▸ hr
  · exact h j

/-! ### Passages and activity (R67, R84, R101) -/

theorem activityAt (h : s.EachSection good) (n : Fin 40) (k : Fin 24) : (s.activityAt n k).EachSection good :=
  R.putSection h (R.activity n (h k))

theorem passageAt (h : s.EachSection good) (n : Fin 40) (k : Fin 24) (inward : Bool) :
    (s.passageAt n k inward).EachSection good := by
  cases hc : s.sections[k].state.counting with
  | false =>
    rw [State.passageAt_still hc]
    exact R.activityAt h n k
  | true =>
    cases inward with
    | true =>
      rw [State.passageAt_in hc]
      exact R.putSection h (R.countIn n (h k) hc)
    | false =>
      rw [State.passageAt_out hc]
      exact R.putSection h (R.countOut n (h k) hc)

theorem passage (h : s.EachSection good) (n : Fin 40) (d : Direction) : (s.passage n d).EachSection good :=
  foldl_preserves (State.EachSection good) _ _ (fun _ b _ ht => R.passageAt ht n b.1 _) s h

theorem activitySpread (h : s.EachSection good) (n : Fin 40) : (s.activity n).EachSection good :=
  foldl_preserves (State.EachSection good) _ _ (fun _ b _ ht => R.activityAt ht n b.1) s h

/-! ### Changes of a source, told (R40, R68, R137) -/

/-- A source changed, and the event that tells of it. -/
theorem deliver {n : Fin 40} {e : SourceEvent} (h : s.EachSection good) (hmoved : s.MovedAt t n)
    (hkept : s.SectionsKept t n)
    (htells : t.sourceState n = s.sourceState n ∨ (t.sourceState n).supervised = true ∨ e.unproves = true) :
    (t.deliver n e).EachSection good := fun k => by
  have htables := hmoved.tables
  refine R.congr (State.SameContext.of_butSections (State.deliver_butSections t n e)) ?_
  by_cases hb : s.bounds n k
  · obtain ⟨sense, hmem⟩ := (State.mem_entries t n k).mpr ((State.bounds_congr htables n k).mpr hb)
    have hat (u : State) (r : SecRun) (hu : u.butSections = t.butSections) (hr : u.sections[k] = r) :
        (u.sourceEventAt n e k).sections[k] = t.eventWarned n e k r := by
      rw [State.sourceEventAt_sections, upd_get_self, State.eventWarned_congr hu, hr]
    refine (foldl_reaches
      (P := fun u : State => u.butSections = t.butSections ∧ ∃ w, u.sections[k] = { s.sections[k] with warning := w })
      (Q := fun u : State => u.butSections = t.butSections ∧ good t k u.sections[k])
      (hit := fun b : Fin 24 × Sense => k = b.1) _ (fun u b _ hk hu => ?_) (fun u b _ hk hu => ?_) (fun u b _ hu => ?_)
      ⟨_, hmem, rfl⟩ t ⟨rfl, hkept.bounded k⟩).2
    · exact ⟨(State.sourceEventAt_butSections ..).trans hu.1, by rw [State.sourceEventAt_other u n e hk]; exact hu.2⟩
    · obtain ⟨hu, w, hw⟩ := hu
      refine ⟨(State.sourceEventAt_butSections ..).trans hu, ?_⟩
      rw [← hk, hat u _ hu hw]
      exact R.told w hmoved htells (h k)
    · obtain ⟨hu, hgood⟩ := hu
      refine ⟨(State.sourceEventAt_butSections ..).trans hu, ?_⟩
      by_cases hk : k = b.1
      · rw [← hk, hat u _ hu rfl]
        exact R.told u.sections[k].warning ((State.SameContext.refl t).movedAt n) (.inl rfl) hgood
      · rw [State.sourceEventAt_other u n e hk]
        exact hgood
  · rw [State.deliver_other _ _ _ (mt (State.bounds_congr htables n k).mp hb), hkept.others k hb]
    exact R.unreached hmoved hb (h k)

/-- A change of a head's record is told whole (R40). -/
theorem commitHead (h : s.EachSection good) (k : Fin 32) {r : HeadRun} (htells : s.heads[k].state.Tells r.state) :
    (s.commitHead k r).EachSection good := by
  have hnoted : ((s.setHead k r).noteStatus k (s.statusOf k)).heads = upd s.heads k r := State.noteStatus_heads ..
  obtain ⟨hsections, -, -, htables, -⟩ := s.sameSections_noted k r (s.statusOf k)
  have hmode : ((s.setHead k r).noteStatus k (s.statusOf k)).mode = s.mode := State.mode_of_butTrack (by simp)
  have hchannels : ((s.setHead k r).noteStatus k (s.statusOf k)).channels = s.channels := State.noteStatus_channels ..
  unfold State.commitHead
  dsimp only
  generalize (s.setHead k r).noteStatus k (s.statusOf k) = v at hnoted hsections htables hmode hchannels
  have hmoved : s.MovedAt v (headSource k) := .of_head hmode htables hnoted hchannels
  have hstate : v.sourceState (headSource k) = r.state := by rw [State.sourceState_head, hnoted, upd_get_self]
  by_cases hhealth : s.heads[k].healthA ≠ r.healthA ∨ s.heads[k].healthB ≠ r.healthB
  · rw [if_pos hhealth]
    cases he : headEvent s.heads[k].state r.state s.tables.heads[k].lossAction with
    | none =>
      refine R.deliver h hmoved (.of_eq hsections _) (.inl ?_)
      rw [hstate, htells _ he, State.sourceState_head]
    | some e =>
      have hframe := State.deliver_butSections v (headSource k) .healthChanged
      have hdelivered : s.MovedAt (v.deliver (headSource k) .healthChanged) (headSource k) :=
        .of_head ((State.mode_of_butSections hframe).trans hmode) ((State.tables_of_butSections hframe).trans htables)
          ((State.heads_of_butSections hframe).trans hnoted) ((State.channels_of_butSections hframe).trans hchannels)
      refine R.deliver h hdelivered ((State.SectionsKept.of_eq hsections _).healthChanged htables) (.inr ?_)
      rw [(State.SameContext.of_butSections hframe).states, hstate]
      exact headEvent_unproves he
  · rw [if_neg hhealth]
    cases he : headEvent s.heads[k].state r.state s.tables.heads[k].lossAction with
    | none =>
      rw [not_or, not_not, not_not] at hhealth
      exact R.same h hsections (.of_head hmode htables hnoted hchannels (htells _ he) hhealth.1.symm hhealth.2.symm)
    | some e =>
      refine R.deliver h hmoved (.of_eq hsections _) (.inr ?_)
      rw [hstate]
      exact headEvent_unproves he

/-- A change of a channel's record is told whole (R137). -/
theorem commitChannel (h : s.EachSection good) (c : Fin 8) {r : Channel} (htells : s.channels[c].state.ChannelTells r.state) :
    (s.commitChannel c r).EachSection good := by
  have hmoved : s.MovedAt (s.setChannel c r) (channelSource c) := .of_channel rfl rfl rfl rfl
  have hself : (s.setChannel c r).channels[c] = r := upd_get_self ..
  have hstate : (s.setChannel c r).sourceState (channelSource c) = r.state := by rw [State.sourceState_channel, hself]
  unfold State.commitChannel
  cases he : channelEvent s.channels[c].state r.state s.tables.relays[c].lossAction with
  | none =>
    have hquiet := htells _ he
    refine R.same h rfl (hmoved.sameContext ?_ ?_)
    · rw [hstate, hquiet, State.sourceState_channel]
    · rw [State.troubles_channel, State.troubles_channel, hself, hquiet]
  | some e =>
    refine R.deliver h hmoved (.of_eq (s := s) (t := s.setChannel c r) rfl _) (.inr ?_)
    rw [hstate]
    exact channelEvent_unproves he

/-- A readmission is told as such (R97). -/
theorem readmitBroken (h : s.EachSection good) (n : Fin 40) : (s.readmitBroken n).EachSection good := by
  by_cases hb : (s.sourceState n).broken
  · rcases source_cases n with ⟨k, rfl⟩ | ⟨c, rfl⟩
    · rw [State.sourceState_head] at hb
      rw [State.readmitBroken_head hb, State.readmitHead_eq hb]
      exact R.deliver h (.of_head rfl rfl rfl rfl) ⟨fun k => ⟨s.sections[k].warning, rfl⟩, fun _ _ => rfl⟩ (.inr (.inr rfl))
    · rw [State.sourceState_channel] at hb
      rw [State.readmitBroken_channel hb]
      exact R.deliver h (.of_channel rfl rfl rfl rfl) ⟨fun k => ⟨s.sections[k].warning, rfl⟩, fun _ _ => rfl⟩ (.inr (.inr rfl))
  · rw [State.readmitBroken_kept hb]
    exact h

/-! ### The edges of a WHEEL frame (R45 to R61) -/

theorem deliverPassage (h : s.EachSection good) (p : Option PassageRecord) : (s.deliverPassage p).EachSection good := by
  cases p with
  | none => exact h
  | some p =>
    rw [State.deliverPassage_some]
    have hpassage := R.passage h (headSource p.source) p.dir
    refine R.same hpassage ?_ (.of_records (State.mode_of_butTrack (State.relayPassage_butTrack ..))
      (State.tables_of_butTrack (State.relayPassage_butTrack ..)) (State.relayPassage_heads ..) (State.relayPassage_channels ..))
    unfold State.relayPassage State.noteStatus
    split
    · split <;> rfl
    · rfl

theorem edges {k : Fin 32} (a : Anchor) (es : List EdgeOperand) (before : Option (Time × Half))
    (h : s.EachSection good) (hk : s.heads[k].state.chained) : (s.edges k a before es).EachSection good := by
  induction es generalizing s before with
  | nil => exact h
  | cons e es ih =>
    have hactivity := R.activitySpread h (headSource k)
    have hheads : (s.activity (headSource k)).heads = s.heads := State.activity_heads ..
    unfold State.edges
    dsimp only
    split
    · refine R.commitHead hactivity k (SourceState.chained.tells_faulty ?_)
      rw [hheads]
      exact hk
    · next r p _ =>
      have htaken : ((s.activity (headSource k)).setHead k
          ((s.activity (headSource k)).heads[k].edgeTaken r (edgeTime a s.partTime before e.stamp))).EachSection good :=
        R.same hactivity rfl (.of_head rfl rfl (State.setHead_heads ..) rfl rfl rfl rfl)
      refine ih _ (R.deliverPassage htaken p) ?_
      rw [State.deliverPassage_heads, State.setHead_heads, upd_get_self, hheads]
      exact hk

theorem wheelAccepted (h : s.EachSection good) {k : Fin 32} (hk : s.heads[k].state.chained) (q flags : Byte)
    (es : List EdgeOperand) : (s.wheelAccepted k q flags es).EachSection good := by
  unfold State.wheelAccepted
  dsimp only
  split
  · exact R.commitHead h k (SourceState.testable.tells_inTest (.inr hk))
  · split
    · exact R.commitHead h k hk.tells_faulty
    · split
      · exact R.commitHead h k hk.tells_faulty
      · refine R.edges _ es none (R.commitHead h k hk.tells_normal) ?_
        rw [State.commitHead_heads, upd_get_self]
        exact .inl rfl

theorem wheelFrame (h : s.EachSection good) (k : Fin 32) (q flags : Byte) (es : List EdgeOperand) :
    (s.wheelFrame k q flags es).EachSection good := by
  by_cases hk : s.heads[k].state.chained
  · cases hj : judgeSeq s.heads[k].expected q with
    | repeated =>
      rw [State.wheelFrame_repeated hk hj]
      exact R.commitHead h k (.refl _)
    | gap =>
      rw [State.wheelFrame_gap hk hj]
      exact R.commitHead h k hk.tells_faulty
    | next =>
      rw [State.wheelFrame_sequence hk hj]
      exact R.wheelAccepted h hk q flags es
  · rw [State.wheelFrame_deaf hk]
    exact h

/-! ### The other events of heads and channels -/

theorem lifeFrame (h : s.EachSection good) (k : Fin 32) (f : LifeFields) : (s.lifeFrame k f).EachSection good :=
  R.commitHead h k (HeadRun.life_tells _ _ _ _)

theorem headExpiry (h : s.EachSection good) (k : Fin 32) : (s.headExpiry k).EachSection good := by
  by_cases hk : s.heads[k].state.chained ∧ s.heads[k].timer.due s.partTime = true
  · rw [State.headExpiry_due hk.1 hk.2]
    exact R.commitHead h k (hk.1.tells_expiry _ _)
  · rw [State.headExpiry_idle hk]
    exact h

theorem testHead (h : s.EachSection good) (k : Fin 32) : (s.testHead k).EachSection good := by
  by_cases hk : s.heads[k].state.testable
  · rw [State.testHead_commits hk]
    exact R.commitHead h k hk.tells_inTest
  · rw [State.testHead_kept hk]
    exact h

theorem testHeads (h : s.EachSection good) (f : Frame) : (s.testHeads f).EachSection good := by
  unfold State.testHeads
  split
  · exact foldl_preserves (State.EachSection good) _ _ (fun _ k _ ht => R.testHead ht k) s h
  · exact h

theorem channelFrame (h : s.EachSection good) (c : Fin 8) (q : Byte) (st : OriginStatus) (ps : List PassageOperand) :
    (s.channelFrame c q st ps).EachSection good := by
  have hcommit := R.commitChannel h c
    (Channel.frame_tells s.channels[c] q st (s.timerAfter (ticks10ms s.tables.relays[c].period)))
  unfold State.channelFrame
  dsimp only
  split
  · exact foldl_preserves (State.EachSection good) _ _ (fun _ _ _ ht => R.passage ht _ _) _ hcommit
  · exact hcommit

theorem channelExpiry (h : s.EachSection good) (c : Fin 8) : (s.channelExpiry c).EachSection good := by
  by_cases hc : s.channels[c].state.chained ∧ s.channels[c].timer.due s.partTime = true
  · rw [State.channelExpiry_due hc.1 hc.2]
    exact R.commitChannel h c (hc.1.channelTells_expiry _ _)
  · rw [State.channelExpiry_idle hc]
    exact h

/-! ### Restores (R110 to R117) -/

theorem acceptRestore (h : s.EachSection good) (kind : RestoreKind) {k : Fin 24} (hk : s.sections[k].state = .disturbed) :
    (s.acceptRestore kind k).EachSection good := by
  have haccepting : (s.accepting kind k).EachSection good :=
    R.untouched (R.putSection h (R.accepted kind (h k) hk))
  have hreadmitted := foldl_preserves (State.EachSection good) State.readmitBroken (s.tables.boundarySources k)
    (fun _ n _ ht => R.readmitBroken ht n) _ haccepting
  rw [State.acceptRestore_eq]
  unfold State.judgeRestore
  split
  · next hgo => exact R.putSection hreadmitted (R.restored (hreadmitted k) hgo.1 hgo.2)
  · exact hreadmitted

theorem localRestore (h : s.EachSection good) (k : Fin 24) : (s.localRestore k).EachSection good := by
  unfold State.localRestore
  split
  · exact h
  · next hk => exact R.acceptRestore h .sweep (State.judgeRestoreOrder_disturbed hk)

theorem restoreExpiry (h : s.EachSection good) (k : Fin 24) : (s.restoreExpiry k).EachSection good := by
  unfold State.restoreExpiry
  split
  · next hk => exact R.putSection h (R.ended _ (h k) (.inl hk.1))
  · exact h

/-! ### Changes of mode, resets and writes (R79, R80, R167, R181, R182) -/

/-- RUN entry finds every section OFF. -/
theorem runEntry {v : State} (h : v.EachSection good) (hmode : v.mode = .run) (hoff : ∀ k : Fin 24, v.sections[k].state = .off)
    (c : Cause) : ((v.runEntry c).judgeWarnings).EachSection good := fun k => by
  have htables : (v.runEntry c).tables = v.tables := v.runEntry_tables c
  have hentering : good (v.runEntry c) k v.sections[k] := R.off (h k) (hoff k) (.of_tables htables)
  refine R.congr (State.judgeWarnings_sameContext _) ?_
  rw [State.judgeWarnings_sections, State.runEntry_sections, htables]
  cases v.tables.sections[k].inUse with
  | true => exact R.entered c v.partTime hentering (hoff k) ((v.runEntry_mode c).trans hmode)
  | false => exact R.unused c v.partTime hentering (hoff k)

theorem enterRun (h : s.EachSection good) (hmode : s.mode = .config) : s.enterRun.EachSection good := by
  have hoff (k : Fin 24) : s.sections[k].state = .off := R.configOff (h k) hmode
  have hrun : (s.setMode .run).EachSection good := fun k => R.off (h k) (hoff k) (.of_tables rfl)
  have hentered := R.runEntry (v := s.setMode .run) hrun rfl hoff .start
  unfold State.enterRun
  dsimp only
  generalize ((s.setMode .run).runEntry .start).judgeWarnings = v at hentered ⊢
  exact R.untouched hentered

theorem enterConfig (h : s.EachSection good) : s.enterConfig.EachSection good := fun k => by
  have hsection : s.enterConfig.sections[k] = s.sections[k].enterConfig := tab_get ..
  rw [hsection]
  exact R.off (R.toConfig (h k)) rfl (.of_tables rfl)

theorem softRestart (h : s.EachSection good) : s.softRestart.EachSection good := by
  have hreset (k : Fin 24) : s.restartValues.dropActivations.sections[k] = .reset := replicate_get ..
  have hvalues : s.restartValues.dropActivations.EachSection good := fun k => by
    rw [hreset]
    exact R.off (R.reset (h k)) rfl (.of_tables rfl)
  rcases s.mode.config_or_run with hm | hm
  · rw [State.softRestart_config hm]
    exact R.untouched hvalues
  · rw [State.softRestart_run hm]
    have hentered := R.runEntry hvalues hm (fun k => by rw [hreset]; rfl) .restart
    generalize (s.restartValues.dropActivations.runEntry .restart).judgeWarnings = v at hentered ⊢
    exact R.untouched hentered

theorem hardwareReset (h : s.EachSection good) (straps : Byte) (ratePin : PinLevel) :
    (s.hardwareReset straps ratePin).EachSection good := fun k => by
  have hsection : (s.hardwareReset straps ratePin).sections[k] = .reset := replicate_get ..
  have htable : (s.hardwareReset straps ratePin).tables.sections[k] = .reset := replicate_get ..
  rw [hsection]
  refine R.off (R.reset (h k)) rfl fun _ => ?_
  rw [State.ceilingFits, htable]
  decide

/-- A WRITE is taken in CONFIG alone, where every section is OFF (R167). -/
theorem written {p : List Byte} {id : TableId} {tables : Tables} (h : s.EachSection good)
    (hw : s.judgeWrite p = .ok (id, tables)) : ((s.setTables tables).linesAfterWrite id p).EachSection good := by
  have htables : (s.setTables tables).EachSection good := fun k =>
    R.off (h k) (R.configOff (h k) (State.judgeWrite_config hw)) (State.judgeWrite_ceilingFits hw k)
  exact R.same htables (State.linesAfterWrite_sections ..) (State.linesAfterWrite_sameContext ..)

/-! ### Frames and requests -/

theorem act (h : s.EachSection good) (c : RequestCode) (p : List Byte) : (s.act c p).1.EachSection good := by
  apply State.act_cases
  case kept => exact h
  case restart => exact R.untouched h
  case hold | watchSet | captured => exact fun _ => R.untouched h
  case toConfig => exact fun _ => R.enterConfig h
  case toRun => exact fun hmode _ => R.enterRun h hmode
  case written => exact fun _ _ hw => R.written h hw
  case readmitted => exact fun n _ => R.readmitBroken h n
  case restored => exact fun kind _ _ hk => R.acceptRestore h kind (State.judgeRestoreOrder_disturbed hk)
  case cancelled => exact fun _ k hk => R.putSection h (R.ended _ (h k) (State.judgeCancel_restoring hk))

theorem request (h : s.EachSection good) (f : Frame) : (s.request f).EachSection good :=
  State.request_cases s f (R.untouched h) (fun _ _ => R.untouched h)
    fun c _ _ => R.untouched (R.act h c _)

theorem relayIn (h : s.EachSection good) (f : Frame) : (s.relayIn f).EachSection good := by
  unfold State.relayIn
  split
  · exact R.untouched h
  · split
    · exact h
    · exact R.channelFrame h _ _ _ _

theorem headOrder (h : s.EachSection good) (f : Frame) : (s.headOrder f).EachSection good :=
  State.headOrder_cases s f (R.untouched h) (fun _ _ => R.untouched h)
    fun _ => R.testHeads (s := s.queueOrder f) (R.untouched h) f

theorem lineArrival (h : s.EachSection good) (j : Judged) : (s.lineArrival j).EachSection good := by
  refine State.lineArrival_cases s j h (R.untouched h) fun f _ => ?_
  have hh : (s.heard f).EachSection good := R.untouched h
  generalize s.heard f = u at hh ⊢
  exact State.routeLine_cases _ f hh (R.untouched hh) (R.untouched hh) (R.request hh f) (R.relayIn hh f)
    (R.headOrder hh f)

theorem fieldArrival (h : s.EachSection good) (j : Judged) : (s.fieldArrival j).EachSection good := by
  refine State.fieldArrival_cases s j h (R.untouched h) fun f _ => ?_
  have hh : (s.fieldHeard f).EachSection good := R.untouched h
  generalize s.fieldHeard f = u at hh ⊢
  exact State.evaluate_cases _ f hh (R.untouched hh) (fun k _ => R.lifeFrame hh k _)
    (fun k _ => R.wheelFrame hh k _ _ _)

/-! ### The transmitters, the timers and the pins -/

theorem afterSent (h : s.EachSection good) (o : Outgoing) : (s.afterSent o).EachSection good := by
  unfold State.afterSent
  split
  · exact R.softRestart h
  · exact h

theorem takeReady {o : Outgoing} (h : s.EachSection good) (ht : s.takeReady = some (o, t)) : t.EachSection good := by
  rw [State.takeReady_frame ht]
  exact R.untouched h

theorem event (h : s.EachSection good) (ht : Event s t) : t.EachSection good := by
  cases ht with
  | idle => exact h
  | tick | resetLow | orderSent => exact R.untouched h
  | hardwareReset straps ratePin => exact R.hardwareReset h straps ratePin
  | levelChange l v =>
    unfold State.levelChange
    dsimp only
    split <;> exact R.untouched h
  | fieldArrival j => exact R.fieldArrival h j
  | lineArrival j => exact R.lineArrival h j
  | headExpiry k => exact R.headExpiry h k
  | channelExpiry c => exact R.channelExpiry h c
  | restoreExpiry k => exact R.restoreExpiry h k
  | silenceExpiry =>
    unfold State.silenceExpiry
    split
    · exact R.untouched h
    · exact h
  | relayExpiry k =>
    unfold State.relayExpiry
    split
    · exact R.untouched h
    · exact h
  | roundExpiry =>
    unfold State.roundExpiry
    split
    · exact R.untouched h
    · exact h
  | activationExpiry l =>
    unfold State.activationExpiry
    split
    · exact R.localRestore (s := s.setLine l { s.lines[l] with activation := .spent, timer := none })
        (R.untouched h) _
    · exact h
  | arbiterTurn =>
    exact State.arbitrate_preserves (P := State.EachSection good) (fun _ _ _ hs ht => R.takeReady hs ht)
      (fun _ o hs => R.afterSent hs o) (fun _ _ hs => R.untouched hs) _ s h
  | lineSent =>
    unfold State.lineSent
    split
    · exact h
    · exact R.afterSent (s := s.setLinePort { s.linePort with tx := none }) (R.untouched h) _
  | startOrder =>
    unfold State.startOrder
    split
    · exact R.untouched h
    · exact h
    · exact h

/-- The condition is kept by every step. -/
theorem step (h : s.EachSection good) (ht : Machine.step s = .next t) : t.EachSection good :=
  step_preserves (P := State.EachSection good) (fun _ hs => R.untouched hs) (fun _ _ hs he => R.event hs he) h ht

end SectionRule

end Sys2Proof.Machine
end

section
/-! SUPPORT. The warning flags follow their sources (R100): every operation on a record leaves the warning, and whether
the section is OFF; the judgement of the warning does the rest. -/

namespace Sys2Proof.Machine

theorem SecState.restoring_on {st : SecState} (h : st = .restoreWait ∨ st = .sweep) : st ≠ .off := by
  rcases h with rfl | rfl <;> decide

/-! ## Operations that leave the warning, and whether the section is OFF -/

/-- The records agree in the warning flag and in being OFF. -/
structure SecRun.Alike (r r' : SecRun) : Prop where
  warning : r'.warning = r.warning
  off : r'.state = .off ↔ r.state = .off

section
variable {r : SecRun}

theorem SecRun.Alike.refl (r : SecRun) : r.Alike r := ⟨rfl, Iff.rfl⟩

/-- A change between two states outside OFF that leaves the warning. -/
theorem SecRun.Alike.of_on {r' : SecRun} (hw : r'.warning = r.warning) (hr : r.state ≠ .off) (hr' : r'.state ≠ .off) :
    r.Alike r' := ⟨hw, iff_of_false hr' hr⟩

theorem SecRun.disturb_alike (h : r.state ≠ .off) (c : Cause) (src : Option (Fin 40)) (now : Time) :
    r.Alike (r.disturb c src now) := .of_on rfl h SecState.noConfusion

theorem SecRun.countIn_alike (h : r.state.counting = true) (ceiling : Nat) (n : Fin 40) (now : Time) :
    r.Alike (r.countIn ceiling n now) := by
  have hon := (SecState.counting_ne h).1
  rcases Nat.lt_or_ge ceiling (r.count + 1) with hover | hroom
  · rw [SecRun.countIn_over hover]
    exact SecRun.disturb_alike hon ..
  · rw [SecRun.countIn_room hroom]
    refine .of_on rfl hon ?_
    dsimp only
    rw [SecState.afterIn_eq h]
    split <;> exact SecState.noConfusion

theorem SecRun.countOut_alike (h : r.state.counting = true) (b : Bool) (n : Fin 40) (now : Time) :
    r.Alike (r.countOut b n now) := by
  have hon := (SecState.counting_ne h).1
  by_cases hnone : r.count = 0
  · by_cases hsweep : r.state = .sweep
    · rw [SecRun.countOut_absorbed hnone hsweep]
      exact .of_on rfl hon hon
    · rw [SecRun.countOut_under hnone hsweep]
      exact SecRun.disturb_alike hon ..
  · by_cases hlast : r.count = 1
    · rw [SecRun.countOut_last hlast]
      refine .of_on rfl hon ?_
      dsimp only
      split <;> exact SecState.noConfusion
    · rw [SecRun.countOut_many (by omega)]
      exact .of_on rfl hon hon

theorem SecRun.activityAt_alike (n : Fin 40) (now : Time) : r.Alike (r.activityAt n now) := by
  unfold SecRun.activityAt
  split
  case h_1 => exact ⟨rfl, Iff.rfl⟩
  case h_2 hst =>
    split
    · exact .of_on rfl (by rw [hst]; decide) SecState.noConfusion
    · exact .refl r
  all_goals exact .refl r

theorem SecRun.restored_alike (h : r.state = .restoreWait) : r.Alike r.restored := by
  have hon : r.state ≠ .off := by rw [h]; decide
  unfold SecRun.restored
  split <;> exact .of_on rfl hon SecState.noConfusion

theorem SecRun.acceptRestore_alike (h : r.state ≠ .off) (kind : RestoreKind) : r.Alike (r.acceptRestore kind) :=
  .of_on rfl h SecState.noConfusion

theorem SecRun.sourceEvent_alike (n : Fin 40) (e : SourceEvent) (b : Bool) (now : Time) :
    r.Alike (r.sourceEvent n e b now) := by
  refine SecRun.sourceEvent_cases r n e b now (fun _ => .refl r) (fun _ => ⟨rfl, Iff.rfl⟩)
    (fun c hoff _ => SecRun.disturb_alike hoff c _ now) (fun hst => ?_) (fun hst _ => ?_)
  all_goals exact .of_on rfl (by rw [hst]; decide) SecState.noConfusion

theorem State.eventOn_alike (s : State) (n : Fin 40) (e : SourceEvent) (k : Fin 24) : r.Alike (s.eventOn n e k r) := by
  have hown := SecRun.sourceEvent_alike (r := r) n e (s.allSupervised k) s.partTime
  unfold State.eventOn
  dsimp only
  split
  · next hgo =>
    have hrestored := SecRun.restored_alike hgo.2.1
    exact ⟨hrestored.warning.trans hown.warning, hrestored.off.trans hown.off⟩
  · exact hown

end

/-! ## In CONFIG every section is OFF (R79) -/

/-- In CONFIG the record is in OFF. -/
def SecRun.OffIn (s : State) (r : SecRun) : Prop := s.mode = .config → r.state = .off

section
variable {s t : State} {r r' : SecRun}

theorem SecRun.OffIn.alike (h : r.OffIn s) (ha : r.Alike r') : r'.OffIn s := fun hm => ha.off.mpr (h hm)

theorem SecRun.OffIn.of_mode (h : r.OffIn s) (hm : t.mode = s.mode) : r.OffIn t := fun hc => h (hm.symm.trans hc)

theorem SecRun.OffIn.of_off (h : r.state = .off) : r.OffIn s := fun _ => h

/-- A section outside OFF finds the part in RUN. -/
theorem SecRun.OffIn.run (h : r.OffIn s) (hon : r.state ≠ .off) : s.mode = .run :=
  s.mode.config_or_run.resolve_left fun hm => hon (h hm)

theorem SecRun.OffIn.of_run (hm : s.mode = .run) : r.OffIn s := fun hc => nomatch hm.symm.trans hc

theorem SecRun.OffIn.told {n : Fin 40} (h : r.OffIn s) (hmoved : s.MovedAt t n) (e : SourceEvent) (k : Fin 24) (w : Bool) :
    (t.eventWarned n e k { r with warning := w }).OffIn t := by
  have hr : SecRun.OffIn t { r with warning := w } := h.of_mode hmoved.mode
  have hevent : SecRun.OffIn t (t.eventOn n e k { r with warning := w }) := hr.alike (State.eventOn_alike t n e k)
  exact hevent

end

/-! ## The warning flag (R100) -/

theorem State.warningOf_alike (s : State) (k : Fin 24) {st st' : SecState} (h : st' = .off ↔ st = .off) :
    s.warningOf k st' = s.warningOf k st := by
  rw [Bool.eq_iff_iff, State.warningOf_iff, State.warningOf_iff, ne_eq, h]

/-- A source that does not bound the section has no part in its warning. -/
theorem State.warningOf_moved {s t : State} {n : Fin 40} {k : Fin 24} (hmoved : s.MovedAt t n) (hb : ¬s.bounds n k)
    (st : SecState) : t.warningOf k st = s.warningOf k st := by
  rw [Bool.eq_iff_iff, State.warningOf_iff, State.warningOf_iff]
  refine and_congr_right fun _ => exists_congr fun m => ?_
  rw [State.bounds_congr hmoved.tables]
  exact and_congr_right fun hm => hmoved.troubles m fun he => hb (he ▸ hm)

theorem State.warningOf_sameContext {s t : State} (h : s.SameContext t) (k : Fin 24) (st : SecState) :
    t.warningOf k st = s.warningOf k st := by
  rw [Bool.eq_iff_iff, State.warningOf_iff, State.warningOf_iff]
  refine and_congr_right fun _ => exists_congr fun m => ?_
  rw [State.bounds_congr h.tables, h.troubles]

/-- In CONFIG the record is OFF (R79), and its warning is that of its sources (R100). -/
structure WarningGood (s : State) (k : Fin 24) (r : SecRun) : Prop where
  off : r.OffIn s
  warning : r.warning = s.warningOf k r.state

section
variable {s : State} {k : Fin 24} {r r' : SecRun}

theorem WarningGood.alike (h : WarningGood s k r) (ha : r.Alike r') : WarningGood s k r' := by
  refine ⟨h.off.alike ha, ?_⟩
  rw [ha.warning, h.warning, State.warningOf_alike s k ha.off]

theorem WarningGood.of_off (hst : r.state = .off) (hw : r.warning = false) : WarningGood s k r := by
  refine ⟨.of_off hst, ?_⟩
  rw [hst, hw]
  rfl

theorem WarningGood.warning_off (h : WarningGood s k r) (hst : r.state = .off) : r.warning = false := by
  rw [h.warning, hst]
  rfl

end

/-- Every operation on a record leaves its warning to the judgement, and the judgement follows the sources. -/
theorem warningRule : SectionRule WarningGood where
  congr hcontext h := ⟨h.off.of_mode hcontext.mode, h.warning.trans (State.warningOf_sameContext hcontext ..).symm⟩
  configOff h := h.off
  off h hst _ := .of_off hst (h.warning_off hst)
  unreached hmoved hb h := ⟨h.off.of_mode hmoved.mode, h.warning.trans (State.warningOf_moved hmoved hb _).symm⟩
  told w hmoved _ h := ⟨h.off.told hmoved _ _ w, rfl⟩
  countIn n h hc := h.alike (SecRun.countIn_alike hc ..)
  countOut n h hc := h.alike (SecRun.countOut_alike hc ..)
  activity n h := h.alike (SecRun.activityAt_alike ..)
  restored h hst _ := h.alike (SecRun.restored_alike hst)
  ended c h hst := h.alike (SecRun.disturb_alike (SecState.restoring_on hst) ..)
  accepted kind h hst := h.alike (SecRun.acceptRestore_alike (by rw [hst]; decide) kind)
  toConfig _ := .of_off rfl rfl
  reset _ := .of_off rfl rfl
  entered _ _ _ _ hmode := ⟨.of_run hmode, rfl⟩
  unused _ _ h hst := .of_off hst (h.warning_off hst)

theorem State.warningsFollow_iff (s : State) : s.WarningsFollow ↔ s.EachSection WarningGood := by
  have hfollows (k : Fin 24) : s.sections[k].warning = s.warningOf k s.sections[k].state ↔
      (s.sections[k].warning = true ↔ s.sections[k].state ≠ .off ∧ ∃ n, s.bounds n k ∧ s.troubles n) := by
    rw [Bool.eq_iff_iff, State.warningOf_iff]
  constructor
  · rintro ⟨hoff, hk⟩ k
    exact ⟨fun hm => hoff hm k, (hfollows k).mpr (hk k)⟩
  · exact fun h => ⟨fun hm k => (h k).off hm, fun k => (hfollows k).mp (h k).warning⟩

/-- Settles O12: the warning is judged after every event that can move it. -/
theorem warningsKeepFollowing : Obligations.WarningsKeepFollowing := by
  unfold Obligations.WarningsKeepFollowing
  intro s t hs ht
  rw [State.warningsFollow_iff] at hs ⊢
  exact warningRule.step hs ht

end Sys2Proof.Machine
end

section
/-! SUPPORT. CLEAR stays proven (R81, R92): a section enters CLEAR with every boundary source NORMAL or LATE alone, and a
source that leaves these states takes its sections out of CLEAR. -/

namespace Sys2Proof.Machine

/-! ## What CLEAR and SETTLING ask of a record -/

/-- SETTLING holds count 0, and so does CLEAR, which in addition finds the boundary sources as `allSup` says. -/
structure SecRun.Proven (r : SecRun) (allSup : Bool) : Prop where
  settling : r.state = .settling → r.count = 0
  clear : r.state = .clear → r.count = 0 ∧ allSup = true

section
variable {r : SecRun} {b : Bool}

theorem SecRun.Proven.of_other (hsettling : r.state ≠ .settling) (hclear : r.state ≠ .clear) : r.Proven b :=
  ⟨fun h => absurd h hsettling, fun h => absurd h hclear⟩

theorem SecRun.disturb_proven (c : Cause) (src : Option (Fin 40)) (now : Time) : (r.disturb c src now).Proven b :=
  .of_other SecState.noConfusion SecState.noConfusion

theorem SecRun.countIn_proven (h : r.state.counting = true) (ceiling : Nat) (n : Fin 40) (now : Time) :
    (r.countIn ceiling n now).Proven b := by
  rcases Nat.lt_or_ge ceiling (r.count + 1) with hover | hroom
  · rw [SecRun.countIn_over hover]
    exact SecRun.disturb_proven ..
  · rw [SecRun.countIn_room hroom, SecState.afterIn_eq h]
    by_cases hsweep : r.state = .sweep
    · rw [if_pos hsweep]
      exact .of_other SecState.noConfusion SecState.noConfusion
    · rw [if_neg hsweep]
      exact .of_other SecState.noConfusion SecState.noConfusion

/-- The last passage out judges the sources; from a count above 1 the section was neither SETTLING nor CLEAR (R86, R87). -/
theorem SecRun.countOut_proven (h : r.Proven b) (n : Fin 40) (now : Time) : (r.countOut b n now).Proven b := by
  by_cases hnone : r.count = 0
  · by_cases hsweep : r.state = .sweep
    · rw [SecRun.countOut_absorbed hnone hsweep]
      exact ⟨h.settling, h.clear⟩
    · rw [SecRun.countOut_under hnone hsweep]
      exact SecRun.disturb_proven ..
  by_cases hlast : r.count = 1
  · rw [SecRun.countOut_last hlast]
    refine ⟨fun _ => rfl, fun hclear => ⟨rfl, ?_⟩⟩
    cases b with
    | true => rfl
    | false => cases hclear
  · rw [SecRun.countOut_many (by omega)]
    exact .of_other (fun hst => hnone (h.settling hst)) fun hst => hnone (h.clear hst).1

theorem SecRun.activityAt_proven (h : r.Proven b) (n : Fin 40) (now : Time) : (r.activityAt n now).Proven b := by
  unfold SecRun.activityAt
  split
  case h_1 => exact ⟨h.settling, h.clear⟩
  case h_2 =>
    split
    · exact .of_other SecState.noConfusion SecState.noConfusion
    · exact h
  all_goals exact h

theorem SecRun.restored_proven (hb : b = true) : r.restored.Proven b := by
  unfold SecRun.restored
  split
  case h_1 => exact ⟨SecState.noConfusion, fun _ => ⟨rfl, hb⟩⟩
  all_goals exact .of_other SecState.noConfusion SecState.noConfusion

/-- A source event leaves CLEAR proven when it takes the section out of CLEAR or the sources stand (R94 to R98). -/
theorem SecRun.sourceEvent_proven {b' : Bool} {e : SourceEvent} (h : r.Proven b')
    (hclear : e.unproves = true ∨ (b' = true → b = true)) (n : Fin 40) (now : Time) : (r.sourceEvent n e b now).Proven b := by
  refine SecRun.sourceEvent_cases (P := (SecRun.Proven · b)) r n e b now (fun hkept => ?_) (fun hst => ?_)
    (fun _ _ _ => SecRun.disturb_proven ..) (fun hst => ?_) (fun hst hsup => ?_)
  · refine ⟨h.settling, fun hst => ?_⟩
    obtain ⟨hcount, hsup⟩ := h.clear hst
    rcases hclear with hun | hstands
    · exact absurd hst (hkept hun)
    · exact ⟨hcount, hstands hsup⟩
  · exact .of_other (by rw [hst]; exact SecState.noConfusion) (by rw [hst]; exact SecState.noConfusion)
  · exact ⟨fun _ => (h.clear hst).1, SecState.noConfusion⟩
  · exact ⟨SecState.noConfusion, fun _ => ⟨h.settling hst, hsup⟩⟩

end

/-! ## The boundary sources judged -/

section
variable {s t : State} {n : Fin 40} {k : Fin 24}

theorem State.allSupervised_of_allNormal (h : s.allNormal k = true) : s.allSupervised k = true :=
  (s.allSupervised_iff k).mpr fun m hm => .inl ((s.allNormal_iff k).mp h m hm)

theorem State.allSupervised_sameContext (h : s.SameContext t) (k : Fin 24) : t.allSupervised k = s.allSupervised k := by
  simp only [State.allSupervised, h.tables, h.states]

/-- The sources stay supervised while the one that moved does, or does not bound the section. -/
theorem State.allSupervised_moved (hmoved : s.MovedAt t n) (h : s.allSupervised k = true)
    (hn : s.bounds n k → t.sourceState n = s.sourceState n ∨ (t.sourceState n).supervised = true) :
    t.allSupervised k = true := by
  rw [State.allSupervised_iff] at h ⊢
  intro m hm
  have hbounds := (State.bounds_congr hmoved.tables m k).mp hm
  by_cases hmn : m = n
  · subst hmn
    rcases hn hbounds with hsame | hsup
    · rw [hsame]
      exact h m hbounds
    · exact (SourceState.supervised_iff _).mp hsup
  · rw [hmoved.states m hmn]
    exact h m hbounds

end

/-! ## The rule (R81) -/

/-- In CONFIG the record is OFF (R79), and CLEAR is proven by the boundary sources (R81). -/
structure ClearGood (s : State) (k : Fin 24) (r : SecRun) : Prop where
  off : r.OffIn s
  proven : r.Proven (s.allSupervised k)

theorem ClearGood.of_off {s : State} {k : Fin 24} {r : SecRun} (hst : r.state = .off) : ClearGood s k r :=
  ⟨.of_off hst, .of_other (by rw [hst]; exact SecState.noConfusion) (by rw [hst]; exact SecState.noConfusion)⟩

theorem ClearGood.told {s t : State} {n : Fin 40} {e : SourceEvent} {k : Fin 24} {r : SecRun} (w : Bool)
    (hmoved : s.MovedAt t n)
    (htells : t.sourceState n = s.sourceState n ∨ (t.sourceState n).supervised = true ∨ e.unproves = true)
    (h : ClearGood s k r) : ClearGood t k (t.eventWarned n e k { r with warning := w }) := by
  have hclear : e.unproves = true ∨ (s.allSupervised k = true → t.allSupervised k = true) := by
    rcases htells with hsame | hsup | hun
    · exact .inr fun hs => State.allSupervised_moved hmoved hs fun _ => .inl hsame
    · exact .inr fun hs => State.allSupervised_moved hmoved hs fun _ => .inr hsup
    · exact .inl hun
  have hproven : SecRun.Proven { r with warning := w } (s.allSupervised k) := ⟨h.proven.settling, h.proven.clear⟩
  have hevent : (t.eventOn n e k { r with warning := w }).Proven (t.allSupervised k) := by
    unfold State.eventOn
    dsimp only
    split
    · next hgo => exact SecRun.restored_proven (State.allSupervised_of_allNormal hgo.2.2)
    · exact SecRun.sourceEvent_proven hproven hclear n t.partTime
  exact ⟨h.off.told hmoved e k w, hevent.settling, hevent.clear⟩

/-- Every way into CLEAR judges the sources, and every source that stops being supervised tells its sections. -/
theorem clearRule : SectionRule ClearGood where
  congr hcontext h := ⟨h.off.of_mode hcontext.mode, (State.allSupervised_sameContext hcontext _).symm ▸ h.proven⟩
  configOff h := h.off
  off _ hst _ := .of_off hst
  unreached hmoved hb h := by
    refine ⟨h.off.of_mode hmoved.mode, h.proven.settling, fun hst => ?_⟩
    obtain ⟨hcount, hsup⟩ := h.proven.clear hst
    exact ⟨hcount, State.allSupervised_moved hmoved hsup fun hbounds => absurd hbounds hb⟩
  told w hmoved htells h := h.told w hmoved htells
  countIn n h hc := ⟨h.off.alike (SecRun.countIn_alike hc ..), SecRun.countIn_proven hc ..⟩
  countOut n h hc := ⟨h.off.alike (SecRun.countOut_alike hc ..), SecRun.countOut_proven h.proven ..⟩
  activity n h := ⟨h.off.alike (SecRun.activityAt_alike ..), SecRun.activityAt_proven h.proven ..⟩
  restored h hst hnormal :=
    ⟨h.off.alike (SecRun.restored_alike hst), SecRun.restored_proven (State.allSupervised_of_allNormal hnormal)⟩
  ended c h hst := ⟨h.off.alike (SecRun.disturb_alike (SecState.restoring_on hst) ..), SecRun.disturb_proven ..⟩
  accepted kind h hst := ⟨h.off.alike (SecRun.acceptRestore_alike (by rw [hst]; decide) kind),
    .of_other SecState.noConfusion SecState.noConfusion⟩
  toConfig _ := .of_off rfl
  reset _ := .of_off rfl
  entered _ _ _ _ hmode := ⟨.of_run hmode, .of_other SecState.noConfusion SecState.noConfusion⟩
  unused _ _ _ hst := .of_off hst

/-- A CLEAR section finds the part in RUN because in CONFIG it were OFF. -/
theorem State.clearIsProven_iff (s : State) : s.ClearIsProven ↔ s.EachSection ClearGood := by
  constructor
  · rintro ⟨hoff, hk⟩ k
    obtain ⟨hsettling, hclear⟩ := hk k
    refine ⟨fun hm => hoff hm k, hsettling, fun hst => ?_⟩
    obtain ⟨-, hcount, hsup⟩ := hclear hst
    exact ⟨hcount, (s.allSupervised_iff k).mpr hsup⟩
  · intro h
    refine ⟨fun hm k => (h k).off hm, fun k => ⟨(h k).proven.settling, fun hst => ?_⟩⟩
    obtain ⟨hcount, hsup⟩ := (h k).proven.clear hst
    exact ⟨(h k).off.run (by rw [hst]; decide), hcount, (s.allSupervised_iff k).mp hsup⟩

/-- Settles O9: no operation on a record enters CLEAR unproven, and no source leaves NORMAL and LATE untold. -/
theorem clearStaysProven : Obligations.ClearStaysProven := by
  unfold Obligations.ClearStaysProven
  intro s t hs ht
  rw [State.clearIsProven_iff] at hs ⊢
  exact clearRule.step hs ht

end Sys2Proof.Machine
end

section
/-! SUPPORT. Counts, tallies and optional fields stay sound (R78, R89, R90, R91): what each operation makes of a sound
record. -/

namespace Sys2Proof.Machine

theorem oneMore_toNat (t : Half) : (oneMore t).toNat = min 65535 (t.toNat + 1) := by
  rw [oneMore, BitVec.toNat_ofNat]
  omega

namespace SecRun.sound

variable {r : SecRun} {c : Nat} (h : r.sound c)
include h

/-- A disturbed section keeps its count and tallies, and holds a cause and no restore (R82). -/
theorem disturb (hoff : r.state ≠ .off) (why : Cause) (src : Option (Fin 40)) (now : Time) :
    (r.disturb why src now).sound c := by
  obtain ⟨hceiling, -, -, -, -, -, -, -, htally, hbalance⟩ := h
  exact ⟨hceiling, by simp [SecRun.disturb], nofun, nofun, iff_of_true rfl rfl, fun _ => rfl, by simp [SecRun.disturb], nofun,
    htally, fun _ => hbalance hoff⟩

/-- A section outside DISTURBED holds no cause. -/
theorem cause_none (hst : r.state ≠ .disturbed) : r.cause = none ∧ r.causeSource = none := by
  obtain ⟨-, -, -, -, hcause, hsource, -⟩ := h
  rw [← Option.not_isSome_iff_eq_none, ← Option.not_isSome_iff_eq_none]
  exact ⟨mt hcause.mp hst, mt hsource hst⟩

/-- A section that waits on no restore and sweeps none holds no restore kind. -/
theorem restoreKind_none (hwait : r.state ≠ .restoreWait) (hsweep : r.state ≠ .sweep) : r.restoreKind = none := by
  obtain ⟨-, -, -, -, -, -, hkind, -⟩ := h
  rw [← Option.not_isSome_iff_eq_none, hkind]
  exact not_or.mpr ⟨hwait, hsweep⟩

theorem count_zero (hst : r.state = .off ∨ r.state = .restoreWait ∨ r.state = .settling ∨ r.state = .clear) : r.count = 0 := by
  obtain ⟨-, hzero, -⟩ := h
  exact hzero hst

/-! ### Counting (R85 to R88) -/

/-- A passage in: the count and the in-tally rise together (R85, R89, R91). -/
theorem countIn (hc : r.state.counting = true) (n : Fin 40) (now : Time) : (r.countIn c n now).sound c := by
  obtain ⟨hoff, hdist, hwait⟩ := SecState.counting_ne hc
  rcases Nat.lt_or_ge c (r.count + 1) with hover | hroom
  · rw [SecRun.countIn_over hover]
    exact h.disturb hoff ..
  obtain ⟨hcause, hsource⟩ := h.cause_none hdist
  have hkind : r.state ≠ .sweep → r.restoreKind = none := h.restoreKind_none hwait
  obtain ⟨-, -, -, -, -, -, -, hsweep, htally, hbalance⟩ := h
  have hcount := hbalance hoff
  rw [SecRun.countIn_room hroom, SecState.afterIn_eq hc]
  have htallies : r.outTally.toNat ≤ (oneMore r.inTally).toNat ∧
      ((oneMore r.inTally).toNat < 65535 → r.outTally.toNat + (r.count + 1) = (oneMore r.inTally).toNat) := by
    rw [oneMore_toNat]
    omega
  by_cases hst : r.state = .sweep
  · rw [if_pos hst]
    exact ⟨hroom, by simp, nofun, fun _ => iff_of_true (by simp [hst]) (by simp), by simp [hcause], by simp [hsource],
      iff_of_true (by rw [hsweep hst]; rfl) (.inr rfl), fun _ => hsweep hst, htallies.1, fun _ => htallies.2⟩
  · rw [if_neg hst]
    exact ⟨hroom, by simp, fun _ => Nat.le_add_left 1 _, nofun, by simp [hcause], by simp [hsource], by simp [hkind hst], nofun,
      htallies.1, fun _ => htallies.2⟩

/-- A passage out: the count falls and the out-tally rises, or the section is disturbed (R86 to R91). -/
theorem countOut (hc : r.state.counting = true) (b : Bool) (n : Fin 40) (now : Time) : (r.countOut b n now).sound c := by
  obtain ⟨hoff, hdist, hwait⟩ := SecState.counting_ne hc
  by_cases hnone : r.count = 0
  · by_cases hst : r.state = .sweep
    · rw [SecRun.countOut_absorbed hnone hst]
      exact h
    · rw [SecRun.countOut_under hnone hst]
      exact h.disturb hoff ..
  obtain ⟨hcause, hsource⟩ := h.cause_none hdist
  obtain ⟨hceiling, hzero, -, hswept, -, -, hkind, hsweep, htally, hbalance⟩ := h
  have hcount := hbalance hoff
  have hmax := r.inTally.isLt
  have htallies : (oneMore r.outTally).toNat ≤ r.inTally.toNat ∧
      (r.inTally.toNat < 65535 → (oneMore r.outTally).toNat + (r.count - 1) = r.inTally.toNat) := by
    rw [oneMore_toNat]
    omega
  by_cases hlast : r.count = 1
  · rw [SecRun.countOut_last hlast]
    rw [hlast] at htallies
    cases b with
    | true =>
      exact ⟨Nat.zero_le c, fun _ => rfl, nofun, nofun, by simp [hcause], by simp [hsource], by simp, nofun, htallies.1,
        fun _ => htallies.2⟩
    | false =>
      exact ⟨Nat.zero_le c, fun _ => rfl, nofun, nofun, by simp [hcause], by simp [hsource], by simp, nofun, htallies.1,
        fun _ => htallies.2⟩
  · rw [SecRun.countOut_many (by omega)]
    refine ⟨(Nat.sub_le ..).trans hceiling, fun hst => absurd (hzero hst) hnone, fun _ => ?_, fun hst => ?_, by simp [hcause, hdist],
      by simp [hsource], hkind, hsweep, htallies.1, fun _ => htallies.2⟩
    · show 1 ≤ r.count - 1
      omega
    · rw [hswept hst]
      show 1 ≤ r.count ↔ 1 ≤ r.count - 1
      omega

/-! ### Activity, source events, restores -/

theorem activityAt (n : Fin 40) (now : Time) : (r.activityAt n now).sound c := by
  unfold SecRun.activityAt
  split
  case h_2 hst =>
    split
    · exact h.disturb (by rw [hst]; decide) .restoreAbandoned (some n) now
    · exact h
  all_goals exact h

theorem sourceEvent (n : Fin 40) (e : SourceEvent) (b : Bool) (now : Time) : (r.sourceEvent n e b now).sound c := by
  have hmoved {st : SecState} (hr : r.state = .clear ∨ r.state = .settling) (hst : st = .clear ∨ st = .settling) :
      ({ r with state := st } : SecRun).sound c := by
    have hcount : r.count = 0 := h.count_zero (by tauto)
    obtain ⟨hcause, hsource⟩ := h.cause_none (by rcases hr with hr | hr <;> rw [hr] <;> decide)
    have hkind : r.restoreKind = none := by
      apply h.restoreKind_none <;> rcases hr with hr | hr <;> rw [hr] <;> decide
    obtain ⟨hceiling, -, -, -, -, -, -, -, htally, hbalance⟩ := h
    have hoff : r.state ≠ .off := by rcases hr with hr | hr <;> rw [hr] <;> decide
    refine ⟨hceiling, fun _ => hcount, ?_, ?_, ?_, by simp [hsource], ?_, ?_, htally, fun _ => hbalance hoff⟩ <;>
      rcases hst with rfl | rfl <;> simp [hcause, hkind]
  refine SecRun.sourceEvent_cases (P := (SecRun.sound · c)) r n e b now (fun _ => h) (fun _ => h)
    (fun why hoff _ => h.disturb hoff why _ now) (fun hst => hmoved (.inl hst) (.inr rfl))
    (fun hst _ => hmoved (.inr hst) (.inl rfl))

/-- A wait that ends by its condition: to SWEEP, or direct to CLEAR, the count 0 as it stood (R112). -/
theorem restored (hst : r.state = .restoreWait) : r.restored.sound c := by
  have hcount : r.count = 0 := h.count_zero (.inr (.inl hst))
  obtain ⟨hcause, hsource⟩ := h.cause_none (by rw [hst]; decide)
  obtain ⟨-, -, -, -, -, -, hkind, -, htally, hbalance⟩ := h
  have hbalanced : r.inTally.toNat < 65535 → r.outTally.toNat + 0 = r.inTally.toNat := hcount ▸ hbalance (by rw [hst]; decide)
  have hrestoring : r.restoreKind.isSome = true := hkind.mpr (.inl hst)
  cases hk : r.restoreKind with
  | none => rw [hk] at hrestoring; cases hrestoring
  | some kind =>
    cases kind with
    | direct =>
      rw [SecRun.restored_direct hk]
      exact ⟨Nat.zero_le c, fun _ => rfl, nofun, nofun, by simp [hcause], by simp [hsource], by simp, nofun, htally, fun _ => hbalanced⟩
    | sweep =>
      rw [SecRun.restored_sweep hk]
      exact ⟨Nat.zero_le c, fun _ => rfl, nofun, fun _ => by simp, by simp [hcause], by simp [hsource], by simp [hk],
        fun _ => hk, htally, fun _ => hbalanced⟩

theorem eventOn {s : State} {k : Fin 24} (n : Fin 40) (e : SourceEvent) : (s.eventOn n e k r).sound c := by
  have hown := h.sourceEvent n e (s.allSupervised k) s.partTime
  unfold State.eventOn
  dsimp only
  split
  · next hgo => exact hown.restored hgo.2.1
  · exact hown

omit h in
/-- An accepted restore starts from nothing (R110). -/
theorem acceptRestore (r : SecRun) (c : Nat) (kind : RestoreKind) : (r.acceptRestore kind).sound c :=
  ⟨Nat.zero_le c, fun _ => rfl, nofun, nofun, by simp [SecRun.acceptRestore], nofun, by simp [SecRun.acceptRestore], nofun,
    Nat.le_refl _, fun _ _ => rfl⟩

/-! ### Changes of mode and resets -/

theorem enterConfig : r.enterConfig.sound c := by
  obtain ⟨-, -, -, -, -, -, -, -, htally, -⟩ := h
  exact ⟨Nat.zero_le c, fun _ => rfl, nofun, nofun, by simp [SecRun.enterConfig], nofun, by simp [SecRun.enterConfig], nofun,
    htally, fun hst => absurd rfl hst⟩

omit h in
theorem reset (c : Nat) : SecRun.reset.sound c :=
  ⟨Nat.zero_le c, fun _ => rfl, nofun, nofun, by simp [SecRun.reset], nofun, by simp [SecRun.reset], nofun, Nat.le_refl _,
    fun _ _ => rfl⟩

/-- A section in OFF is sound under any ceiling. -/
theorem of_off (hst : r.state = .off) (c' : Nat) : r.sound c' := by
  have hcount := h.count_zero (.inl hst)
  obtain ⟨-, hrest⟩ := h
  exact ⟨by rw [hcount]; exact Nat.zero_le c', hrest⟩

/-- RUN entry clears the count and the tallies of a section in OFF (R80). -/
theorem enterRun (hst : r.state = .off) (inUse : Bool) (why : Cause) (now : Time) : (r.enterRun inUse why now).sound c := by
  obtain ⟨hcause, hsource⟩ := h.cause_none (by rw [hst]; decide)
  have hkind := h.restoreKind_none (by rw [hst]; decide) (by rw [hst]; decide)
  cases inUse with
  | true =>
    exact ⟨Nat.zero_le c, fun _ => rfl, nofun, nofun, iff_of_true rfl rfl, fun _ => rfl,
      by simp [SecRun.enterRun, SecRun.disturb], nofun, Nat.le_refl _, fun _ _ => rfl⟩
  | false =>
    exact ⟨Nat.zero_le c, fun _ => rfl, by simp [SecRun.enterRun, hst], by simp [SecRun.enterRun, hst],
      by simp [SecRun.enterRun, hst, hcause], by simp [SecRun.enterRun, hsource], by simp [SecRun.enterRun, hst, hkind],
      by simp [SecRun.enterRun, hst], Nat.le_refl _, fun _ _ => rfl⟩

end SecRun.sound

/-! ## The rule (R78, R90) -/

/-- In CONFIG the record is OFF (R79), it is sound, and its ceiling is in range (R90). -/
structure SoundGood (s : State) (k : Fin 24) (r : SecRun) : Prop where
  off : r.OffIn s
  sound : r.sound s.tables.sections[k].ceiling.toNat
  fits : s.ceilingFits k

theorem SoundGood.of_tables {s t : State} {k : Fin 24} {r : SecRun} (h : SoundGood s k r) (hmode : t.mode = s.mode)
    (htables : t.tables = s.tables) : SoundGood t k r := by
  refine ⟨h.off.of_mode hmode, ?_, h.fits.of_tables htables⟩
  rw [htables]
  exact h.sound

theorem SoundGood.told {s t : State} {n : Fin 40} {k : Fin 24} {r : SecRun} (h : SoundGood s k r) (hmoved : s.MovedAt t n)
    (e : SourceEvent) (w : Bool) : SoundGood t k (t.eventWarned n e k { r with warning := w }) := by
  have hmovedGood : SoundGood t k r := h.of_tables hmoved.mode hmoved.tables
  have hwarned : SecRun.sound { r with warning := w } t.tables.sections[k].ceiling.toNat := hmovedGood.sound
  have hevent := hwarned.eventOn (s := t) (k := k) n e
  exact ⟨h.off.told hmoved e k w, hevent, hmovedGood.fits⟩

/-- Every operation on a record keeps its counts, tallies and optional fields as its state asks. -/
theorem soundRule : SectionRule SoundGood where
  congr hcontext h := h.of_tables hcontext.mode hcontext.tables
  configOff h := h.off
  off h hst hfits := ⟨.of_off hst, h.sound.of_off hst _, hfits h.fits⟩
  unreached hmoved _ h := h.of_tables hmoved.mode hmoved.tables
  told w hmoved _ h := h.told hmoved _ w
  countIn n h hc := ⟨h.off.alike (SecRun.countIn_alike hc ..), h.sound.countIn hc n _, h.fits⟩
  countOut n h hc := ⟨h.off.alike (SecRun.countOut_alike hc ..), h.sound.countOut hc _ n _, h.fits⟩
  activity n h := ⟨h.off.alike (SecRun.activityAt_alike ..), h.sound.activityAt n _, h.fits⟩
  restored h hst _ := ⟨h.off.alike (SecRun.restored_alike hst), h.sound.restored hst, h.fits⟩
  ended c h hst :=
    ⟨h.off.alike (SecRun.disturb_alike (SecState.restoring_on hst) ..), h.sound.disturb (SecState.restoring_on hst) c none _, h.fits⟩
  accepted kind h hst := ⟨h.off.alike (SecRun.acceptRestore_alike (by rw [hst]; decide) kind), SecRun.sound.acceptRestore .., h.fits⟩
  toConfig h := ⟨.of_off rfl, h.sound.enterConfig, h.fits⟩
  reset h := ⟨.of_off rfl, SecRun.sound.reset _, h.fits⟩
  entered c now h hst hmode := ⟨.of_run hmode, h.sound.enterRun hst true c now, h.fits⟩
  unused c now h hst := ⟨.of_off hst, h.sound.enterRun hst false c now, h.fits⟩

theorem State.sectionsSound_iff (s : State) : s.SectionsSound ↔ s.EachSection SoundGood := by
  constructor
  · rintro ⟨hoff, hk⟩ k
    obtain ⟨hsound, hfits⟩ := hk k
    exact ⟨fun hm => hoff hm k, hsound, hfits⟩
  · exact fun h => ⟨fun hm k => (h k).off hm, fun k => ⟨(h k).sound, (h k).fits⟩⟩

/-- Settles O8: every operation on a record leaves it sound. -/
theorem sectionsStaySound : Obligations.SectionsStaySound := by
  unfold Obligations.SectionsStaySound
  intro s t hs ht
  rw [State.sectionsSound_iff] at hs ⊢
  exact soundRule.step hs ht

end Sys2Proof.Machine
end

section
/-! SUPPORT. The restore timers stay with their sections (R105): a section enters RESTORE_WAIT in the acceptance of a restore
alone, which starts its timer, and the one write that takes it out again stops the timer. -/

namespace Sys2Proof.Machine

/-! ## No operation on a record enters RESTORE_WAIT -/

section
variable {r : SecRun}

theorem SecRun.countIn_not_wait (h : r.state.counting = true) (ceiling : Nat) (n : Fin 40) (now : Time) :
    (r.countIn ceiling n now).state ≠ .restoreWait := by
  rcases Nat.lt_or_ge ceiling (r.count + 1) with hover | hroom
  · rw [SecRun.countIn_over hover]
    exact SecState.noConfusion
  · rw [SecRun.countIn_room hroom]
    dsimp only
    rw [SecState.afterIn_eq h]
    split <;> exact SecState.noConfusion

theorem SecRun.countOut_not_wait (h : r.state.counting = true) (allSup : Bool) (n : Fin 40) (now : Time) :
    (r.countOut allSup n now).state ≠ .restoreWait := by
  have hkept : r.state ≠ .restoreWait := (SecState.counting_ne h).2.2
  by_cases hnone : r.count = 0
  · by_cases hsweep : r.state = .sweep
    · rw [SecRun.countOut_absorbed hnone hsweep]
      exact hkept
    · rw [SecRun.countOut_under hnone hsweep]
      exact SecState.noConfusion
  by_cases hlast : r.count = 1
  · rw [SecRun.countOut_last hlast]
    dsimp only
    split <;> exact SecState.noConfusion
  · rw [SecRun.countOut_many (by omega)]
    exact hkept

theorem SecRun.wait_of_activityAt {n : Fin 40} {now : Time} (h : (r.activityAt n now).state = .restoreWait) :
    r.state = .restoreWait := by
  by_cases hd : r.state = .disturbed
  · rw [SecRun.activityAt_disturbed hd] at h
    exact h
  by_cases hw : r.state = .restoreWait
  · exact hw
  · rw [SecRun.activityAt_kept hd fun hw' => absurd hw' hw] at h
    exact h

/-- The way on leaves RESTORE_WAIT (R112). -/
theorem SecRun.restored_not_wait (r : SecRun) : r.restored.state ≠ .restoreWait := by
  unfold SecRun.restored
  split <;> exact SecState.noConfusion

theorem State.wait_of_eventOn {s : State} {n : Fin 40} {e : SourceEvent} {k : Fin 24}
    (h : (s.eventOn n e k r).state = .restoreWait) : r.state = .restoreWait := by
  unfold State.eventOn at h
  dsimp only at h
  split at h
  · exact absurd h (SecRun.restored_not_wait _)
  · rw [SecRun.sourceEvent_wait h] at h
    exact h

theorem SecRun.enterRun_not_wait (h : r.state = .off) (inUse : Bool) (c : Cause) (now : Time) :
    (r.enterRun inUse c now).state ≠ .restoreWait := by
  cases inUse with
  | true => exact SecState.noConfusion
  | false =>
    show r.state ≠ .restoreWait
    rw [h]
    decide

end

/-! ## In CONFIG every section stays OFF (R79) -/

/-- In CONFIG no operation on a record finds a section outside OFF. -/
theorem offRule : SectionRule fun s _ r => r.OffIn s where
  congr hcontext h := h.of_mode hcontext.mode
  configOff h := h
  off _ hst _ := .of_off hst
  unreached hmoved _ h := h.of_mode hmoved.mode
  told w hmoved _ h := h.told hmoved _ _ w
  countIn _ h hc := h.alike (SecRun.countIn_alike hc ..)
  countOut _ h hc := h.alike (SecRun.countOut_alike hc ..)
  activity _ h := h.alike (SecRun.activityAt_alike ..)
  restored h hst _ := h.alike (SecRun.restored_alike hst)
  ended _ h hst := h.alike (SecRun.disturb_alike (SecState.restoring_on hst) ..)
  accepted kind h hst := h.alike (SecRun.acceptRestore_alike (by rw [hst]; decide) kind)
  toConfig _ := .of_off rfl
  reset _ := .of_off rfl
  entered _ _ _ _ hmode := .of_run hmode
  unused _ _ _ hst := .of_off hst

theorem State.configOff_iff (s : State) : s.ConfigOff ↔ s.EachSection fun s _ r => r.OffIn s :=
  ⟨fun h k hm => h hm k, fun h hm k => h k hm⟩

/-! ## The timers along every event (R105) -/

/-- A restore timer runs exactly while its section is in RESTORE_WAIT, whatever the mode (R105). -/
def State.TimersMatch (s : State) : Prop :=
  ∀ k : Fin 24, s.restoreTimers[k].isSome = true ↔ s.sections[k].state = .restoreWait

theorem State.restoreTimersFollow_iff (s : State) : s.RestoreTimersFollow ↔ s.ConfigOff ∧ s.TimersMatch := Iff.rfl

/-- With every timer stopped and no section waiting, they match. -/
theorem State.TimersMatch.of_stopped {s : State} (htimers : s.restoreTimers = Vector.replicate 24 none)
    (hsections : ∀ k : Fin 24, s.sections[k].state ≠ .restoreWait) : s.TimersMatch := fun k => by
  rw [htimers, replicate_get]
  exact iff_of_false Bool.false_ne_true (hsections k)

theorem State.relayPassage_sameSections (s : State) (k : Fin 32) (p : Passage) : s.SameSections (s.relayPassage k p) := by
  unfold State.relayPassage State.noteStatus
  split
  · split <;> exact ⟨rfl, rfl, rfl, rfl, rfl⟩
  · exact ⟨rfl, rfl, rfl, rfl, rfl⟩

namespace State.TimersMatch

variable {s t : State} (h : s.TimersMatch)
include h

/-- Sections and restore timers are left as they are. -/
theorem untouched (hsections : t.sections = s.sections := by rfl) (htimers : t.restoreTimers = s.restoreTimers := by rfl) :
    t.TimersMatch := fun k => by
  rw [hsections, htimers]
  exact h k

/-- A write that does not enter RESTORE_WAIT stops the timer when it leaves it (R105). -/
theorem putSection (k : Fin 24) {r : SecRun} (hr : r.state = .restoreWait → s.sections[k].state = .restoreWait) :
    (s.putSection k r).TimersMatch := fun j => by
  rw [State.putSection_restoreTimers, State.putSection_get]
  by_cases hkj : k = j
  · subst hkj
    rw [if_pos rfl]
    by_cases hleaves : s.sections[k].state = .restoreWait ∧ r.state ≠ .restoreWait
    · rw [if_pos hleaves, upd_get_self]
      exact iff_of_false Bool.false_ne_true hleaves.2
    · rw [if_neg hleaves, h k]
      exact ⟨fun hw => not_not.mp fun hne => hleaves ⟨hw, hne⟩, hr⟩
  · rw [if_neg hkj]
    split
    · rw [upd_get_ne _ hkj]
      exact h j
    · exact h j

/-! ### Passages, activity and source events (R67, R68, R84, R101) -/

theorem activityAt (n : Fin 40) (k : Fin 24) : (s.activityAt n k).TimersMatch :=
  h.putSection k SecRun.wait_of_activityAt

theorem passageAt (n : Fin 40) (k : Fin 24) (inward : Bool) : (s.passageAt n k inward).TimersMatch := by
  cases hc : s.sections[k].state.counting with
  | false =>
    rw [State.passageAt_still hc]
    exact h.activityAt n k
  | true =>
    cases inward with
    | true =>
      rw [State.passageAt_in hc]
      exact h.putSection k fun hw => absurd hw (SecRun.countIn_not_wait hc _ _ _)
    | false =>
      rw [State.passageAt_out hc]
      exact h.putSection k fun hw => absurd hw (SecRun.countOut_not_wait hc _ _ _)

theorem passage (n : Fin 40) (d : Direction) : (s.passage n d).TimersMatch :=
  foldl_preserves State.TimersMatch _ _ (fun _ b _ ht => ht.passageAt n b.1 _) s h

theorem activity (n : Fin 40) : (s.activity n).TimersMatch :=
  foldl_preserves State.TimersMatch _ _ (fun _ b _ ht => ht.activityAt n b.1) s h

theorem sourceEventAt (n : Fin 40) (e : SourceEvent) (k : Fin 24) : (s.sourceEventAt n e k).TimersMatch := by
  have hevent : (s.putSection k (s.eventOn n e k s.sections[k])).TimersMatch := h.putSection k State.wait_of_eventOn
  rw [State.sourceEventAt_eq]
  exact hevent.putSection k id

theorem deliver (n : Fin 40) (e : SourceEvent) : (s.deliver n e).TimersMatch :=
  State.deliver_preserves (fun _ k ht => ht.sourceEventAt n e k) s h

theorem deliverOpt (n : Fin 40) (e : Option SourceEvent) : (s.deliverOpt n e).TimersMatch := by
  cases e with
  | none => exact h
  | some e => exact h.deliver n e

/-! ### Heads and channels -/

theorem sameSections (hsame : s.SameSections t) : t.TimersMatch := by
  obtain ⟨hsections, htimers, -⟩ := hsame
  exact h.untouched hsections htimers

theorem commitHead (k : Fin 32) (r : HeadRun) : (s.commitHead k r).TimersMatch := by
  have hnoted := h.sameSections (s.sameSections_noted k r (s.statusOf k))
  unfold State.commitHead
  dsimp only
  split
  · exact (hnoted.deliver _ _).deliverOpt _ _
  · exact hnoted.deliverOpt _ _

theorem deliverPassage (p : Option PassageRecord) : (s.deliverPassage p).TimersMatch := by
  cases p with
  | none => exact h
  | some p => exact (h.passage _ _).sameSections (State.relayPassage_sameSections ..)

theorem edges (k : Fin 32) (a : Anchor) (before : Option (Time × Half)) (es : List EdgeOperand) :
    (s.edges k a before es).TimersMatch := by
  induction es generalizing s before with
  | nil => exact h
  | cons e es ih =>
    have hactivity := h.activity (headSource k)
    unfold State.edges
    dsimp only
    split
    · exact hactivity.commitHead k _
    · next r p _ =>
      have htaken : ((s.activity (headSource k)).setHead k
          ((s.activity (headSource k)).heads[k].edgeTaken r (edgeTime a s.partTime before e.stamp))).TimersMatch :=
        hactivity.untouched
      exact ih (htaken.deliverPassage p) _

theorem wheelAccepted (k : Fin 32) (q flags : Byte) (es : List EdgeOperand) : (s.wheelAccepted k q flags es).TimersMatch := by
  unfold State.wheelAccepted
  dsimp only
  split
  · exact h.commitHead k _
  · split
    · exact h.commitHead k _
    · split
      · exact h.commitHead k _
      · exact (h.commitHead k _).edges k _ _ es

theorem wheelFrame (k : Fin 32) (q flags : Byte) (es : List EdgeOperand) : (s.wheelFrame k q flags es).TimersMatch := by
  by_cases hk : s.heads[k].state.chained
  · cases hj : judgeSeq s.heads[k].expected q with
    | repeated =>
      rw [State.wheelFrame_repeated hk hj]
      exact h.commitHead k _
    | gap =>
      rw [State.wheelFrame_gap hk hj]
      exact h.commitHead k _
    | next =>
      rw [State.wheelFrame_sequence hk hj]
      exact h.wheelAccepted k q flags es
  · rw [State.wheelFrame_deaf hk]
    exact h

theorem headExpiry (k : Fin 32) : (s.headExpiry k).TimersMatch := by
  by_cases hk : s.heads[k].state.chained ∧ s.heads[k].timer.due s.partTime = true
  · rw [State.headExpiry_due hk.1 hk.2]
    exact h.commitHead k _
  · rw [State.headExpiry_idle hk]
    exact h

theorem testHead (k : Fin 32) : (s.testHead k).TimersMatch := by
  by_cases hk : s.heads[k].state.testable
  · rw [State.testHead_commits hk]
    exact h.commitHead k _
  · rw [State.testHead_kept hk]
    exact h

theorem testHeads (f : Frame) : (s.testHeads f).TimersMatch := by
  unfold State.testHeads
  split
  · exact foldl_preserves State.TimersMatch _ _ (fun _ k _ ht => ht.testHead k) s h
  · exact h

theorem commitChannel (c : Fin 8) (r : Channel) : (s.commitChannel c r).TimersMatch :=
  State.TimersMatch.deliverOpt (s := s.setChannel c r) h.untouched _ _

theorem channelFrame (c : Fin 8) (q : Byte) (st : OriginStatus) (ps : List PassageOperand) :
    (s.channelFrame c q st ps).TimersMatch := by
  unfold State.channelFrame
  dsimp only
  split
  · exact foldl_preserves State.TimersMatch _ _ (fun _ _ _ ht => ht.passage _ _) _ (h.commitChannel c _)
  · exact h.commitChannel c _

theorem channelExpiry (c : Fin 8) : (s.channelExpiry c).TimersMatch := by
  by_cases hc : s.channels[c].state.chained ∧ s.channels[c].timer.due s.partTime = true
  · rw [State.channelExpiry_due hc.1 hc.2]
    exact h.commitChannel c _
  · rw [State.channelExpiry_idle hc]
    exact h

theorem readmitBroken (n : Fin 40) : (s.readmitBroken n).TimersMatch := by
  by_cases hb : (s.sourceState n).broken
  · obtain ⟨v, hv, hsame⟩ := State.readmitBroken_delivers hb
    rw [hv]
    exact (h.sameSections hsame).deliver n _
  · rw [State.readmitBroken_kept hb]
    exact h

/-! ### Restores (R105, R110 to R117) -/

/-- The section that enters RESTORE_WAIT starts its timer in the same event (R105). -/
theorem accepting (kind : RestoreKind) {k : Fin 24} (hk : s.sections[k].state = .disturbed) :
    (s.accepting kind k).TimersMatch := fun j => by
  rw [State.accepting_restoreTimers kind hk]
  by_cases hkj : k = j
  · subst hkj
    rw [upd_get_self, State.accepting_self]
    exact iff_of_true rfl rfl
  · rw [upd_get_ne _ hkj, State.accepting_other _ _ _ (Ne.symm hkj)]
    exact h j

theorem judgeRestore (k : Fin 24) : (s.judgeRestore k).TimersMatch := by
  unfold State.judgeRestore
  split
  · exact h.putSection k fun hw => absurd hw (SecRun.restored_not_wait _)
  · exact h

theorem acceptRestore (kind : RestoreKind) {k : Fin 24} (hk : s.sections[k].state = .disturbed) :
    (s.acceptRestore kind k).TimersMatch := by
  have hreadmitted := foldl_preserves State.TimersMatch State.readmitBroken (s.tables.boundarySources k)
    (fun _ n _ ht => ht.readmitBroken n) _ (h.accepting kind hk)
  rw [State.acceptRestore_eq]
  exact hreadmitted.judgeRestore k

theorem localRestore (k : Fin 24) : (s.localRestore k).TimersMatch := by
  unfold State.localRestore
  split
  · exact h
  · next hk => exact h.acceptRestore .sweep (State.judgeRestoreOrder_disturbed hk)

theorem disturb (k : Fin 24) (c : Cause) (src : Option (Fin 40)) : (s.disturb k c src).TimersMatch :=
  h.putSection k fun hw => nomatch hw

theorem restoreExpiry (k : Fin 24) : (s.restoreExpiry k).TimersMatch := by
  unfold State.restoreExpiry
  split
  · exact h.disturb k _ _
  · exact h

/-! ### Changes of mode, resets and writes (R79, R80, R181, R182) -/

/-- RUN entry finds every section OFF, and so every timer stopped. -/
theorem enterRun (hoff : ∀ k : Fin 24, s.sections[k].state = .off) : s.enterRun.TimersMatch := fun k => by
  have hstopped : ¬s.restoreTimers[k].isSome = true := by
    rw [h k, hoff k]
    decide
  have hsection : s.enterRun.sections[k].state ≠ .restoreWait := by
    cases hu : s.tables.sections[k].inUse with
    | true =>
      rw [State.enterRun_used s hu]
      exact SecState.noConfusion
    | false =>
      rw [State.enterRun_unused s hu]
      exact SecRun.enterRun_not_wait (hoff k) _ _ _
  rw [State.enterRun_frame]
  exact iff_of_false hstopped hsection

omit h in
theorem enterConfig (s : State) : s.enterConfig.TimersMatch := by
  refine .of_stopped rfl fun k => ?_
  rw [show s.enterConfig.sections[k] = s.sections[k].enterConfig from tab_get ..]
  exact SecState.noConfusion

omit h in
theorem softRestart (s : State) : s.softRestart.TimersMatch := by
  refine .of_stopped (by rw [State.softRestart_frame]) fun k => ?_
  rw [State.softRestart_sections]
  split <;> exact SecState.noConfusion

omit h in
theorem hardwareReset (s : State) (straps : Byte) (ratePin : PinLevel) : (s.hardwareReset straps ratePin).TimersMatch := by
  refine .of_stopped rfl fun k => ?_
  rw [show (s.hardwareReset straps ratePin).sections[k] = .reset from replicate_get ..]
  exact SecState.noConfusion

theorem written (id : TableId) (tables : Tables) (p : List Byte) :
    ((s.setTables tables).linesAfterWrite id p).TimersMatch := by
  cases id <;> exact h.untouched

/-! ### Frames and requests -/

theorem act (hoff : s.ConfigOff) (c : RequestCode) (p : List Byte) : (s.act c p).1.TimersMatch := by
  apply State.act_cases
  case kept => exact h
  case restart => exact h.untouched
  case hold | watchSet | captured => exact fun _ => h.untouched
  case toConfig => exact fun _ => enterConfig s
  case toRun => exact fun hm _ => h.enterRun (hoff hm)
  case written => exact fun id tables _ => h.written id tables p
  case readmitted => exact fun n _ => h.readmitBroken n
  case restored => exact fun kind _ _ hk => h.acceptRestore kind (State.judgeRestoreOrder_disturbed hk)
  case cancelled => exact fun _ k _ => h.disturb k _ _

theorem request (hoff : s.ConfigOff) (f : Frame) : (s.request f).TimersMatch :=
  State.request_cases s f h.untouched (fun _ _ => h.untouched) fun c _ _ => (h.act hoff c _).untouched

theorem relayIn (f : Frame) : (s.relayIn f).TimersMatch := by
  unfold State.relayIn
  split
  · exact h.untouched
  · split
    · exact h
    · exact h.channelFrame _ _ _ _

theorem headOrder (f : Frame) : (s.headOrder f).TimersMatch :=
  State.headOrder_cases s f h.untouched (fun _ _ => h.untouched)
    fun _ => State.TimersMatch.testHeads (s := s.queueOrder f) h.untouched f

theorem lineArrival (hoff : s.ConfigOff) (j : Judged) : (s.lineArrival j).TimersMatch := by
  refine State.lineArrival_cases s j h h.untouched fun f _ => ?_
  have hh : (s.heard f).TimersMatch := h.untouched
  have hho : (s.heard f).ConfigOff := hoff
  generalize s.heard f = u at hh hho ⊢
  exact State.routeLine_cases _ f hh hh.untouched hh.untouched (hh.request hho f) (hh.relayIn f) (hh.headOrder f)

theorem fieldArrival (j : Judged) : (s.fieldArrival j).TimersMatch := by
  refine State.fieldArrival_cases s j h h.untouched fun f _ => ?_
  have hh : (s.fieldHeard f).TimersMatch := h.untouched
  generalize s.fieldHeard f = u at hh ⊢
  exact State.evaluate_cases _ f hh hh.untouched (fun k _ => hh.commitHead k _) (fun k _ => hh.wheelFrame k _ _ _)

/-! ### The transmitters, the timers and the pins -/

theorem afterSent (o : Outgoing) : (s.afterSent o).TimersMatch := by
  unfold State.afterSent
  split
  · exact softRestart s
  · exact h

theorem takeReady {o : Outgoing} (ht : s.takeReady = some (o, t)) : t.TimersMatch := by
  rw [State.takeReady_frame ht]
  exact h.untouched

theorem event (hoff : s.ConfigOff) (ht : Event s t) : t.TimersMatch := by
  cases ht with
  | idle => exact h
  | tick | resetLow | orderSent => exact h.untouched
  | hardwareReset straps ratePin => exact hardwareReset s straps ratePin
  | levelChange l v =>
    unfold State.levelChange
    dsimp only
    split <;> exact h.untouched
  | fieldArrival j => exact h.fieldArrival j
  | lineArrival j => exact h.lineArrival hoff j
  | headExpiry k => exact h.headExpiry k
  | channelExpiry c => exact h.channelExpiry c
  | restoreExpiry k => exact h.restoreExpiry k
  | silenceExpiry =>
    unfold State.silenceExpiry
    split
    · exact h.untouched
    · exact h
  | relayExpiry k =>
    unfold State.relayExpiry
    split
    · exact h.untouched
    · exact h
  | roundExpiry =>
    unfold State.roundExpiry
    split
    · exact h.untouched
    · exact h
  | activationExpiry l =>
    unfold State.activationExpiry
    split
    · exact State.TimersMatch.localRestore (s := s.setLine l { s.lines[l] with activation := .spent, timer := none })
        h.untouched _
    · exact h
  | arbiterTurn =>
    exact State.arbitrate_preserves (fun _ _ _ hs ht => hs.takeReady ht) (fun _ o hs => hs.afterSent o)
      (fun _ _ hs => hs.untouched) _ s h
  | lineSent =>
    unfold State.lineSent
    split
    · exact h
    · exact State.TimersMatch.afterSent (s := s.setLinePort { s.linePort with tx := none }) h.untouched _
  | startOrder =>
    unfold State.startOrder
    split
    · exact h.untouched
    · exact h
    · exact h

end State.TimersMatch

/-- Settles O7: the timers match their sections along every event, with OFF in CONFIG kept beside them for RUN entry. -/
theorem restoreTimersStayWithTheirSections : Obligations.RestoreTimersStayWithTheirSections := by
  unfold Obligations.RestoreTimersStayWithTheirSections
  intro s t hs ht
  refine step_preserves (P := State.RestoreTimersFollow) (fun _ h => h) (fun u v hu he => ?_) hs ht
  obtain ⟨hoff, htimers⟩ := u.restoreTimersFollow_iff.mp hu
  exact ⟨v.configOff_iff.mpr (offRule.event (u.configOff_iff.mp hoff) he), htimers.event hoff he⟩

end Sys2Proof.Machine
end

section
/-! SUPPORT. A restore order refused (R107), a restore cancelled or timed out (R113, R116), and the inputs of the local
lines, with the sweep restore a completed activation asks for (R117, R177, R179). -/

namespace Sys2Proof.Machine

/-! ## The section a number names (R107 check 2) -/

section
variable {s : State} {n : Nat} {k : Fin 24}

theorem State.sectionNamed_used (h : n = k.val) (huse : s.tables.sections[k].inUse = true) : s.sectionNamed n = some k := by
  subst h
  unfold State.sectionNamed
  rw [dif_pos k.isLt]
  exact if_pos huse

theorem State.sectionNamed_none (h : ∀ k : Fin 24, n = k.val → s.tables.sections[k].inUse = false) :
    s.sectionNamed n = none := by
  unfold State.sectionNamed
  split
  · next hlt =>
    have hunused := h ⟨n, hlt⟩ rfl
    exact if_neg fun huse => Bool.false_ne_true (hunused.symm.trans huse)
  · rfl

theorem State.sectionNamed_eq_some (h : s.sectionNamed n = some k) : n = k.val ∧ s.tables.sections[k].inUse = true := by
  unfold State.sectionNamed at h
  split at h
  · split at h
    · next huse =>
      cases h
      exact ⟨rfl, huse⟩
    · cases h
  · cases h

/-! ## The order's checks (R107) -/

theorem State.tooSoon_iff (s : State) (k : Fin 24) :
    s.tooSoon k = true ↔ (s.partTime - s.sections[k].disturbedTime).toNat < 100000 := decide_eq_true_iff

variable {kind : RestoreKind}

theorem State.judgeRestoreOrder_config (h : s.mode = .config) : s.judgeRestoreOrder kind n = .refused .wrongMode := if_pos h

theorem State.judgeRestoreOrder_range (hmode : s.mode = .run)
    (h : ∀ k : Fin 24, n = k.val → s.tables.sections[k].inUse = false) : s.judgeRestoreOrder kind n = .refused .range := by
  unfold State.judgeRestoreOrder
  rw [hmode, if_neg (by decide), State.sectionNamed_none h]

/-- At a section in use, in RUN, checks 3 to 7 decide. -/
theorem State.judgeRestoreOrder_refused {r : Result} (hmode : s.mode = .run) (hn : n = k.val)
    (huse : s.tables.sections[k].inUse = true) (h : s.restoreChecks kind k = some r) :
    s.judgeRestoreOrder kind n = .refused r := by
  unfold State.judgeRestoreOrder
  rw [hmode, if_neg (by decide), State.sectionNamed_used hn huse]
  simp only [h]

theorem State.restoreChecks_inhibited (h : s.inhibits k) : s.restoreChecks kind k = some .inhibited :=
  if_pos ((s.inhibited_iff k).mpr h)

theorem State.restoreChecks_busy (hfree : ¬s.inhibits k)
    (h : s.sections[k].state = .restoreWait ∨ s.sections[k].state = .sweep) : s.restoreChecks kind k = some .busy := by
  unfold State.restoreChecks
  rw [if_neg (mt (s.inhibited_iff k).mp hfree), if_pos h]

theorem State.restoreChecks_wrongState (hfree : ¬s.inhibits k) (h : s.sections[k].state = .off ∨
    s.sections[k].state = .occupied ∨ s.sections[k].state = .settling ∨ s.sections[k].state = .clear) :
    s.restoreChecks kind k = some .wrongState := by
  unfold State.restoreChecks
  rw [if_neg (mt (s.inhibited_iff k).mp hfree)]
  rcases h with h | h | h | h <;> rw [h] <;> rfl

/-- At a free section in DISTURBED the time since then and the eligibility are left to judge (R108, R109). -/
theorem State.restoreChecks_of_disturbed (hfree : ¬s.inhibits k) (h : s.sections[k].state = .disturbed) :
    s.restoreChecks kind k =
      if s.tooSoon k = true then some .tooSoon
      else if kind = .direct ∧ (!s.directEligible k) = true then some .notEligible else none := by
  unfold State.restoreChecks
  rw [if_neg (mt (s.inhibited_iff k).mp hfree), h, if_neg (by decide), if_neg (by decide)]

theorem State.restoreChecks_tooSoon (hfree : ¬s.inhibits k) (h : s.sections[k].state = .disturbed)
    (hsoon : (s.partTime - s.sections[k].disturbedTime).toNat < 100000) : s.restoreChecks kind k = some .tooSoon := by
  rw [State.restoreChecks_of_disturbed hfree h, if_pos ((s.tooSoon_iff k).mpr hsoon)]

theorem State.restoreChecks_notEligible (hfree : ¬s.inhibits k) (h : s.sections[k].state = .disturbed)
    (htime : ¬(s.partTime - s.sections[k].disturbedTime).toNat < 100000) (hno : ¬s.eligible k) :
    s.restoreChecks .direct k = some .notEligible := by
  have hineligible : s.directEligible k = false := by rw [← Bool.not_eq_true, State.directEligible_iff]; exact hno
  rw [State.restoreChecks_of_disturbed hfree h, if_neg (mt (s.tooSoon_iff k).mp htime), hineligible]
  exact if_pos ⟨rfl, rfl⟩

/-- Checks that all pass leave the section free, DISTURBED for long enough, and eligible for its kind. -/
theorem State.restorable_of_restoreChecks (hmode : s.mode = .run) (huse : s.tables.sections[k].inUse = true)
    (h : s.restoreChecks kind k = none) : s.restorable kind k := by
  have hstate := State.restoreChecks_disturbed h
  have hfree : ¬s.inhibits k := fun hin => nomatch (State.restoreChecks_inhibited hin).symm.trans h
  refine ⟨hmode, huse, hfree, hstate, not_lt.mp fun hsoon => ?_, fun hkind => ?_⟩
  · exact nomatch (State.restoreChecks_tooSoon hfree hstate hsoon).symm.trans h
  · by_contra hno
    subst hkind
    have htime : ¬(s.partTime - s.sections[k].disturbedTime).toNat < 100000 := fun hsoon =>
      nomatch (State.restoreChecks_tooSoon hfree hstate hsoon).symm.trans h
    exact nomatch (State.restoreChecks_notEligible hfree hstate htime hno).symm.trans h

/-- The order is accepted only with every check passed, at the section it names. -/
theorem State.restorable_of_accepted (h : s.judgeRestoreOrder kind n = .accepted k) : n = k.val ∧ s.restorable kind k := by
  unfold State.judgeRestoreOrder at h
  split at h
  · cases h
  next hmode =>
  split at h
  · cases h
  next hnamed =>
  split at h
  · cases h
  next hchecks =>
  cases h
  obtain ⟨hn, huse⟩ := State.sectionNamed_eq_some hnamed
  exact ⟨hn, State.restorable_of_restoreChecks (s.mode.config_or_run.resolve_left hmode) huse hchecks⟩

end

/-- A heard frame moves no line, table or pin, and so no inhibition (R107 check 3). -/
theorem State.heard_inhibits (s : State) (f : Frame) (k : Fin 24) : (s.heard f).inhibits k ↔ s.inhibits k := Iff.rfl

theorem State.doRestore_refused {s : State} {kind : RestoreKind} {p : List Byte} {r : Result}
    (h : s.judgeRestoreOrder kind (byteAt p 0).toNat = .refused r) : s.doRestore kind p = s.refuse r := by
  rw [State.doRestore, h]

/-- A restore order past steps 1 to 5 of R163 that its checks refuse is only answered. -/
theorem State.restore_refused {s : State} {hdr : Header} (hto : s.toManagement hdr) (hfrom : s.fromInterlocking hdr)
    {kind : RestoreKind} {tag p : Byte} {r : Result}
    (h : (s.heard (requestOperand hdr kind.request tag [p])).judgeRestoreOrder kind p.toNat = .refused r) :
    s.answersOnly kind.request hdr tag [p] ⟨r, []⟩ := by
  have hdo := State.doRestore_refused (p := [p]) h
  cases kind <;> exact State.answersOnly_of_act hto (show 1 ≤ 62 by decide) rfl hfrom rfl hdo

/-- Settles O45: each check of R107 with the ones before it passed. -/
theorem restoresAreRefusedInOrder : Obligations.RestoresAreRefusedInOrder := by
  unfold Obligations.RestoresAreRefusedInOrder
  intro s hdr tag p kind hto hfrom refused
  generalize hu : s.heard (requestOperand hdr kind.request tag [p]) = u
  have hrefused {r : Result} (h : u.judgeRestoreOrder kind p.toNat = .refused r) : refused r :=
    State.restore_refused hto hfrom (hu ▸ h)
  have hinhibits (k : Fin 24) : u.inhibits k ↔ s.inhibits k := by rw [← hu, State.heard_inhibits]
  have heligible (k : Fin 24) : u.eligible k ↔ s.eligible k := by rw [← hu]; exact Iff.rfl
  obtain ⟨hmode, htables, hsections, htime⟩ : u.mode = s.mode ∧ u.tables = s.tables ∧ u.sections = s.sections ∧
      u.partTime = s.partTime := by rw [← hu]; exact ⟨rfl, rfl, rfl, rfl⟩
  rw [← hmode, ← htables, ← hsections, ← htime]
  refine ⟨fun hm => hrefused (State.judgeRestoreOrder_config hm), fun hm hno => hrefused (State.judgeRestoreOrder_range hm hno),
    fun k hm hk huse => ?_⟩
  rw [← hinhibits, ← heligible]
  intro r soon
  have hchecks {x : Result} (h : u.restoreChecks kind k = some x) : refused x :=
    hrefused (State.judgeRestoreOrder_refused hm hk huse h)
  refine ⟨fun hin => hchecks (State.restoreChecks_inhibited hin), fun hfree hst => hchecks (State.restoreChecks_busy hfree hst),
    fun hfree hst => hchecks (State.restoreChecks_wrongState hfree hst),
    fun hfree hst hsoon => hchecks (State.restoreChecks_tooSoon hfree hst hsoon), fun hfree hst hlong hkind hno => ?_⟩
  subst hkind
  exact hchecks (State.restoreChecks_notEligible hfree hst hlong hno)

/-! ## The ends of a restore (R113, R116) -/

section
variable {s : State} {n : Nat} {k : Fin 24}

theorem State.judgeCancel_config (h : s.mode = .config) : s.judgeCancel n = .refused .wrongMode := if_pos h

theorem State.judgeCancel_range (hmode : s.mode = .run)
    (h : ∀ k : Fin 24, n = k.val → s.tables.sections[k].inUse = false) : s.judgeCancel n = .refused .range := by
  unfold State.judgeCancel
  rw [hmode, if_neg (by decide), State.sectionNamed_none h]

/-- At a section in use, in RUN, its state decides. -/
theorem State.judgeCancel_named (hmode : s.mode = .run) (hn : n = k.val) (huse : s.tables.sections[k].inUse = true) :
    s.judgeCancel n = if s.sections[k].state = .restoreWait ∨ s.sections[k].state = .sweep then .accepted k
      else .refused .wrongState := by
  unfold State.judgeCancel
  rw [hmode, if_neg (by decide), State.sectionNamed_used hn huse]

theorem State.doCancel_refused {p : List Byte} {r : Result} (h : s.judgeCancel (byteAt p 0).toNat = .refused r) :
    s.doCancel p = s.refuse r := by
  rw [State.doCancel, h]

theorem State.doCancel_accepted {p : List Byte} (h : s.judgeCancel (byteAt p 0).toNat = .accepted k) :
    s.doCancel p = (s.disturb k .cancelled none).okay := by
  rw [State.doCancel, h]

/-- A section outside DISTURBED that enters it: the record, the owed flag, and the timer of a wait (R82, R103, R105). -/
theorem State.disturb_effect (h : s.sections[k].state ≠ .disturbed) (c : Cause) (src : Option (Fin 40)) :
    (s.disturb k c src).sections = upd s.sections k (s.sections[k].disturb c src s.partTime) ∧
      (s.disturb k c src).notice.owed = upd s.notice.owed k true ∧
      (s.disturb k c src).restoreTimers =
        if s.sections[k].state = .restoreWait then upd s.restoreTimers k none else s.restoreTimers := by
  refine ⟨State.putSection_sections .., ?_, ?_⟩
  · rw [State.disturb, State.putSection_owed, if_pos (SecRun.disturb_reportable h ..)]
  · have hleaves : (s.sections[k].disturb c src s.partTime).state ≠ .restoreWait := SecState.noConfusion
    rw [State.disturb, State.putSection_restoreTimers]
    simp only [and_iff_left hleaves]

theorem State.restoreExpiry_due (hst : s.sections[k].state = .restoreWait) (h : s.restoreTimers[k].reached s.partTime) :
    s.restoreExpiry k = s.disturb k .restoreTimeout none := if_pos ⟨hst, (Timer.due_iff ..).mpr h⟩

theorem State.restoreExpiry_idle (h : ¬(s.sections[k].state = .restoreWait ∧ s.restoreTimers[k].reached s.partTime)) :
    s.restoreExpiry k = s := if_neg fun ⟨hst, hdue⟩ => h ⟨hst, (Timer.due_iff ..).mp hdue⟩

end

/-- Settles O47: the checks of a cancel in order and the disturbance it is, then the same disturbance at the expiry. -/
theorem restoresAreCancelledOrTimeOut : Obligations.RestoresAreCancelledOrTimeOut := by
  unfold Obligations.RestoresAreCancelledOrTimeOut
  refine ⟨fun s hdr tag p hto hfrom => ?_, fun s k hup => ?_⟩
  · intro refused
    have hexec : exec (.restoreCancel hdr tag [p]) s = _ :=
      State.request_acts hto .restoreCancel tag [p] (show 1 ≤ 62 by decide) rfl hfrom
    have hrefused {r : Result}
        (h : (s.heard (requestOperand hdr .restoreCancel tag [p])).judgeCancel p.toNat = .refused r) : refused r :=
      State.answersOnly_of_act hto (show 1 ≤ 62 by decide) rfl hfrom rfl (State.doCancel_refused (p := [p]) h)
    rw [hexec]
    generalize hu : s.heard (requestOperand hdr .restoreCancel tag [p]) = u at hrefused ⊢
    obtain ⟨hmode, htables, hsections, htime, hnotice, htimers⟩ : u.mode = s.mode ∧ u.tables = s.tables ∧
        u.sections = s.sections ∧ u.partTime = s.partTime ∧ u.notice = s.notice ∧ u.restoreTimers = s.restoreTimers := by
      rw [← hu]
      exact ⟨rfl, rfl, rfl, rfl, rfl, rfl⟩
    rw [← hmode, ← htables, ← hsections, ← htime, ← hnotice, ← htimers]
    refine ⟨fun hm => hrefused (State.judgeCancel_config hm), fun hm hno => hrefused (State.judgeCancel_range hm hno),
      fun k hm hk huse => ⟨fun hwait hsweep => hrefused ?_, fun hst => ?_⟩⟩
    · rw [State.judgeCancel_named hm hk huse, if_neg (not_or.mpr ⟨hwait, hsweep⟩)]
    · have hjudged : u.judgeCancel p.toNat = .accepted k := by rw [State.judgeCancel_named hm hk huse, if_pos hst]
      have hact : u.act .restoreCancel [p] = (u.disturb k .cancelled none).okay := State.doCancel_accepted (p := [p]) hjudged
      have hentered : u.sections[k].state ≠ .disturbed := by rcases hst with hst | hst <;> rw [hst] <;> decide
      rw [hact]
      exact ⟨u.disturb k .cancelled none, rfl, State.disturb_butSections .., State.disturb_effect hentered ..⟩
  · have hexec : exec (.restoreTimerExpiry k) s = .next (s.restoreExpiry k) := congrArg _ (State.whenUp_eq hup _)
    rw [hexec]
    refine ⟨fun hst hreached => ?_, fun hno => congrArg _ (State.restoreExpiry_idle hno)⟩
    obtain ⟨hsections, howed, htimers⟩ :=
      State.disturb_effect (s := s) (k := k) (by rw [hst]; decide) .restoreTimeout none
    rw [if_pos hst] at htimers
    rw [State.restoreExpiry_due hst hreached]
    exact ⟨_, rfl, State.disturb_butSections .., hsections, howed, htimers⟩

/-! ## A change of the level at a pin (R177, R179) -/

/-- The level that activates an input of this polarity (R177). -/
def Polarity.activates (p : Polarity) (v : PinLevel) : Prop := (p = .normal ∧ v = .low) ∨ (p = .inverted ∧ v = .high)

theorem Polarity.activates_iff (p : Polarity) (v : PinLevel) :
    p.activates v ↔ ((v == .low) == (p == .normal)) = true := by
  cases p <;> cases v <;> simp [Polarity.activates]

/-- Of two levels one activates. -/
theorem Polarity.activates_ne {p : Polarity} {v w : PinLevel} (h : v ≠ w) : p.activates w ↔ ¬p.activates v := by
  have hlow : (w == .low) = !(v == .low) := by
    cases v <;> cases w
    case low.low | high.high => exact absurd rfl h
    all_goals rfl
  rw [Polarity.activates_iff, Polarity.activates_iff, hlow]
  cases v == .low <;> cases p == .normal <;> decide

section
variable {x : LineRun} {t : Timer}

theorem LineRun.levelChanged_starts (h : x.activation = .idle) :
    x.levelChanged true t = { x with activation := .timing, timer := t } := by
  unfold LineRun.levelChanged
  rw [h]

theorem LineRun.levelChanged_goes_on (h : x.activation ≠ .idle) : x.levelChanged true t = x := by
  unfold LineRun.levelChanged
  split
  case h_1 hidle _ => exact absurd hidle h
  case h_4 | h_5 => rfl
  all_goals
    next hlevel => cases hlevel

theorem LineRun.levelChanged_breaks_off (h : x.activation = .timing) :
    x.levelChanged false t = { x with activation := .idle, timer := none } := by
  unfold LineRun.levelChanged
  rw [h]

theorem LineRun.levelChanged_ends (h : x.activation ≠ .timing) :
    x.levelChanged false t = { x with activation := .idle } := by
  unfold LineRun.levelChanged
  cases hx : x.activation with
  | timing => exact absurd hx h
  | spent => rfl
  | idle =>
    show x = { x with activation := .idle }
    rw [← hx]

end

section
variable {s : State} {l : Fin 8} {v : PinLevel}

/-- The part drives no RESTORE_IN line: what is sensed there is the board's level. -/
theorem State.sensed_restoreIn (h : s.tables.lines[l].function = .restoreIn) :
    s.sensed l = true ↔ s.tables.lines[l].polarity.activates s.lines[l].board := by
  have hout : s.tables.lines[l].function.output = false := by rw [h]; rfl
  rw [State.sensed_undriven hout, Polarity.activates_iff]

theorem State.levelChange_still (h : s.tables.lines[l].function ≠ .restoreIn ∨ s.lines[l].board = v) :
    s.levelChange l v = s.setLine l { s.lines[l] with board := v } := by
  unfold State.levelChange
  refine if_neg fun ⟨hf, hmoved, _⟩ => ?_
  rcases h with h | h
  · exact h hf
  · have hsame : s.setLine l { s.lines[l] with board := s.lines[l].board } = s :=
      congrArg (fun lines => ({ s with lines := lines } : State)) (upd_same ..)
    subst h
    rw [hsame] at hmoved
    exact hmoved rfl

/-- A new level at a RESTORE_IN line moves its activation with the level sensed (R179). -/
theorem State.levelChange_moves (hup : s.pins.resetLow = false) (hf : s.tables.lines[l].function = .restoreIn)
    (hv : s.lines[l].board ≠ v) :
    ∃ active : Bool, (active = true ↔ s.tables.lines[l].polarity.activates v) ∧ s.levelChange l v =
      s.setLine l (({ s.lines[l] with board := v } : LineRun).levelChanged active (some (s.partTime + 25000))) := by
  have hself : (s.setLine l { s.lines[l] with board := v }).lines[l] = { s.lines[l] with board := v } := upd_get_self ..
  have hactive : (s.setLine l { s.lines[l] with board := v }).sensed l = true ↔
      s.tables.lines[l].polarity.activates v := by
    rw [State.sensed_restoreIn (s := s.setLine l _) hf, hself]
    exact Iff.rfl
  have hmoved : (s.setLine l { s.lines[l] with board := v }).sensed l ≠ s.sensed l := fun he => by
    have hiff := Polarity.activates_ne (p := s.tables.lines[l].polarity) hv
    rw [← hactive, he, State.sensed_restoreIn hf] at hiff
    exact iff_not_self hiff
  refine ⟨_, hactive, ?_⟩
  unfold State.levelChange
  dsimp only
  rw [if_pos ⟨hf, hmoved, by rw [hup]; rfl⟩, hself]
  exact congrArg (fun lines => ({ s with lines := lines } : State)) (upd_upd ..)

end

/-! ## The 500 ms timer of a RESTORE_IN line (R179, R117) -/

section
variable {s : State} {l : Fin 8}

/-- What is sensed rests on the latches and the board's levels alone. -/
theorem State.setLine_sensed {y : LineRun} (hlatch : y.latch = s.lines[l].latch) (hboard : y.board = s.lines[l].board)
    (m : Fin 8) : (s.setLine l y).sensed m = s.sensed m := by
  have hkept : (s.setLine l y).lines[m].latch = s.lines[m].latch ∧ (s.setLine l y).lines[m].board = s.lines[m].board := by
    rw [State.setLine_lines, upd_get]
    split
    · next hlm => exact hlm ▸ ⟨hlatch, hboard⟩
    · exact ⟨rfl, rfl⟩
  simp only [State.sensed, State.pinLow, State.drivesLow, hkept, State.setLine_tables, State.setLine_pins]

/-- The line's activation is spent, its timer stopped. -/
def State.spending (s : State) (l : Fin 8) : State :=
  s.setLine l { s.lines[l] with activation := .spent, timer := none }

/-- A spent activation leaves every check of a restore as it stood. -/
theorem State.spending_restorable (s : State) (l : Fin 8) (kind : RestoreKind) (k : Fin 24) :
    (s.spending l).restorable kind k ↔ s.restorable kind k := by
  have hinhibits : (s.spending l).inhibits k ↔ s.inhibits k := by
    have hsensed (m : Fin 8) : (s.spending l).sensed m = s.sensed m :=
      State.setLine_sensed (y := { s.lines[l] with activation := .spent, timer := none }) rfl rfl m
    simp only [State.inhibits, hsensed]
    exact Iff.rfl
  rw [State.restorable, hinhibits]
  exact Iff.rfl

theorem State.activationExpiry_due (hf : s.tables.lines[l].function = .restoreIn) (ha : s.lines[l].activation = .timing)
    (ht : s.lines[l].timer.reached s.partTime) : s.activationExpiry l = (s.spending l).localRestore s.tables.lines[l].sec :=
  if_pos ⟨hf, ha, (Timer.due_iff ..).mpr ht⟩

theorem State.activationExpiry_idle (h : ¬(s.tables.lines[l].function = .restoreIn ∧ s.lines[l].activation = .timing ∧
    s.lines[l].timer.reached s.partTime)) : s.activationExpiry l = s :=
  if_neg fun ⟨hf, ha, hdue⟩ => h ⟨hf, ha, (Timer.due_iff ..).mp hdue⟩

theorem State.localRestore_accepted {k : Fin 24} (h : s.restorable .sweep k) :
    s.localRestore k = s.acceptRestore .sweep k := by
  unfold State.localRestore
  rw [State.judgeRestoreOrder_accepted h]

/-- A local restore that fails a check is refused without an answer (R117). -/
theorem State.localRestore_refused {k : Fin 24} (h : ¬s.restorable .sweep k) : s.localRestore k = s := by
  unfold State.localRestore
  split
  · rfl
  · next j hj =>
    obtain ⟨hkj, hrestorable⟩ := State.restorable_of_accepted hj
    exact absurd (Fin.ext hkj ▸ hrestorable) h

/-- The section of an accepted sweep restore: cleared, and in SWEEP or in RESTORE_WAIT as its sources stand (R110, R112). -/
theorem State.acceptSweep_section {k : Fin 24} (h : s.restorable .sweep k) :
    let r := (s.acceptRestore .sweep k).sections[k]
    let allNormal := ∀ n, s.bounds n k → s.sourceState n = .normal
    r.cause = none ∧ r.count = 0 ∧ (allNormal → r.state = .sweep) ∧ (¬allNormal → r.state = .restoreWait) := by
  obtain ⟨-, hnormal, -, -, hwaits, -⟩ := restoresAreAccepted.2 s .sweep k h
  intro r allNormal
  by_cases hall : allNormal
  · have hr : r = _ := (congrArg (·[k]) (hnormal hall rfl)).trans (upd_get_self ..)
    rw [hr]
    exact ⟨rfl, rfl, fun _ => rfl, fun hno => absurd hall hno⟩
  · obtain ⟨hr, -⟩ := hwaits hall
    rw [show r = _ from hr]
    exact ⟨rfl, rfl, fun hyes => absurd hyes hall, fun _ => rfl⟩

end

/-- Settles O59: the activation follows the level sensed; at its expiry the sweep restore is accepted or silently refused. -/
theorem restoreInLinesActivate : Obligations.RestoreInLinesActivate := by
  unfold Obligations.RestoreInLinesActivate
  refine ⟨fun s l v hup => ?_, fun s l hup => ?_⟩
  · intro x active become
    have hbecome {y : LineRun} (h : s.levelChange l v = s.setLine l y) : become y := congrArg _ h
    refine ⟨fun h => hbecome (State.levelChange_still h), fun hf hv => ?_⟩
    obtain ⟨b, hb, hchange⟩ := State.levelChange_moves hup hf hv
    have hon (h : active v) : b = true := hb.mpr h
    have hoff (h : ¬active v) : b = false := Bool.eq_false_iff.mpr (mt hb.mp h)
    refine ⟨fun ha hx => ?_, fun ha hx => ?_, fun ha hx => ?_, fun ha hx => ?_⟩
    · rw [hon ha, LineRun.levelChanged_starts (x := { x with board := v }) hx] at hchange
      exact hbecome hchange
    · rw [hon ha, LineRun.levelChanged_goes_on (x := { x with board := v }) hx] at hchange
      exact hbecome hchange
    · rw [hoff ha, LineRun.levelChanged_breaks_off (x := { x with board := v }) hx] at hchange
      exact hbecome hchange
    · rw [hoff ha, LineRun.levelChanged_ends (x := { x with board := v }) hx] at hchange
      exact hbecome hchange
  · have hexec : exec (.restoreInTimerExpiry l) s = .next (s.activationExpiry l) := congrArg _ (State.whenUp_eq hup _)
    rw [hexec]
    intro x k fires spent
    have hrestorable : spent.restorable .sweep k ↔ s.restorable .sweep k := s.spending_restorable l .sweep k
    have hfires (h : fires) : s.activationExpiry l = spent.localRestore k := by
      obtain ⟨hf, ha, ht⟩ := h
      exact State.activationExpiry_due hf ha ht
    refine ⟨fun h => congrArg _ (State.activationExpiry_idle h), fun h hno => ?_, fun h hyes => ?_⟩
    · rw [hfires h, State.localRestore_refused (mt hrestorable.mp hno)]
    · have hspentRestorable := hrestorable.mpr hyes
      rw [hfires h, State.localRestore_accepted hspentRestorable]
      exact ⟨_, rfl, rfl, State.acceptRestore_linePort .., State.acceptSweep_section hspentRestorable⟩

end Sys2Proof.Machine
end


section
/-! SUPPORT. The relay unit (chapter 7): a passage that joins a pending list (R122 to R124), and a RELAY frame from its
channel's match to the record, the delivery and the passages (R131 to R137). -/

namespace Sys2Proof.Machine

/-! ## The pending list of a relaying head (R122 to R124) -/

section
variable {o : RelayOut} {p : Passage}

theorem RelayOut.join_room (hb : o.broken = false) (hroom : o.pending.length < 4) :
    o.join p = { o with pending := o.pending ++ [p], ready := true } :=
  if_neg (by simpa [hb, Config.pendingSpace] using hroom)

theorem RelayOut.join_dropped (h : o.broken = true ∨ 4 ≤ o.pending.length) : o.join p = { o with broken := true } := if_pos h

end

/-- The broken flag changes the reported status of the states that report better than FAULTY, and once (R123). -/
theorem reportedStatus_breaks (st : SourceState) (broken : Bool) : (reportedStatus st true != reportedStatus st broken) =
    (!broken && (st == .normal || st == .late || st == .awaiting)) := by
  cases broken <;> cases st <;> rfl

section
variable {s : State} {k : Fin 32} {r : RelayOut} {p : Passage}

/-- A relay-out record written at a relaying head: its ready flag is set too when its broken flag changes the reported
status (R123). -/
theorem State.setRelayOut_noteStatus (hr : s.tables.heads[k].relayOut ≠ 0) (b : OriginStatus) :
    (s.setRelayOut k r).noteStatus k b =
      s.setRelayOut k { r with ready := r.ready || (reportedStatus s.heads[k].state r.broken != b) } := by
  have hstatus : (s.setRelayOut k r).statusOf k = reportedStatus s.heads[k].state r.broken := by
    rw [State.statusOf, State.setRelayOut_relayOut, upd_get_self]
    rfl
  by_cases htold : reportedStatus s.heads[k].state r.broken = b
  · rw [State.noteStatus_untold fun h => h.2 (hstatus.trans htold), bne_eq_false_iff_eq.mpr htold, Bool.or_false]
  · rw [State.noteStatus, if_pos ⟨(HeadRec.relays_iff _).mpr hr, hstatus ▸ htold⟩, bne_iff_ne.mpr htold, Bool.or_true]
    simp only [State.setRelayOut, upd_get_self, upd_upd]

theorem State.relayPassage_silent (h : s.tables.heads[k].relayOut = 0) : s.relayPassage k p = s :=
  if_neg fun hr => (HeadRec.relays_iff _).mp hr h

theorem State.relayPassage_relays (h : s.tables.heads[k].relayOut ≠ 0) : s.relayPassage k p =
    s.setRelayOut k { s.relayOut[k].join p with ready := (s.relayOut[k].join p).ready ||
      (reportedStatus s.heads[k].state (s.relayOut[k].join p).broken !=
        reportedStatus s.heads[k].state s.relayOut[k].broken) } := by
  rw [State.relayPassage, if_pos ((HeadRec.relays_iff _).mpr h), State.setRelayOut_noteStatus h]
  rfl

end

/-- Settles O48: the passage joins the record, and the status note adds the ready flag where the broken flag shows. -/
theorem passagesJoinThePendingList : Obligations.PassagesJoinThePendingList := by
  unfold Obligations.PassagesJoinThePendingList
  intro s k p o
  refine ⟨State.relayPassage_silent, fun hr hb hroom => ?_, fun hr hfull => ?_⟩
  · rw [State.relayPassage_relays hr, RelayOut.join_room hb hroom]
    rfl
  · rw [State.relayPassage_relays hr, RelayOut.join_dropped hfull, reportedStatus_breaks]
    rfl

/-! ## The channel a frame matches (R131) -/

/-- A used channel that carries this origin head of this station (R131). -/
def Tables.carries (t : Tables) (station origin : Byte) (c : Fin 8) : Prop :=
  t.relays[c].used = true ∧ t.relays[c].station = station ∧ t.relays[c].headAddress = origin

section
variable {t : Tables} {station origin : Byte}

theorem Tables.carries_iff (c : Fin 8) :
    (t.relays[c].used && t.relays[c].station == station && t.relays[c].headAddress == origin) = true ↔
      t.carries station origin c := by
  simp only [Tables.carries, Bool.and_eq_true, beq_iff_eq, and_assoc]

theorem Tables.channelOf_eq_some_iff {c : Fin 8} : t.channelOf station origin = some c ↔
    t.carries station origin c ∧ ∀ d, d < c → ¬t.carries station origin d := by
  simp only [Tables.channelOf, lowest_eq_some_iff, ← Tables.carries_iff, Bool.not_eq_true]

theorem Tables.channelOf_eq_none (h : ∀ c, ¬t.carries station origin c) : t.channelOf station origin = none :=
  Option.eq_none_iff_forall_ne_some.mpr fun c hc => h c (Tables.channelOf_eq_some_iff.mp hc).1

theorem Tables.channelOf_of_carries {c : Fin 8} (h : t.carries station origin c) :
    ∃ d, t.channelOf station origin = some d := by
  rw [← Option.ne_none_iff_exists']
  intro hnone
  have hno := lowest_eq_none hnone c
  rw [(Tables.carries_iff c).mpr h] at hno
  cases hno

end

/-! ## A RELAY frame on its way to the channel (R131, R135) -/

/-- The passages of a frame applied in list order (R135). -/
def State.applyPassages (s : State) (c : Fin 8) (ps : List PassageOperand) : State :=
  ps.foldl (fun s p => s.passage (channelSource c) (Direction.ofByte p.direction)) s

section
variable {s : State} {hdr : Header} {q origin status : Byte} {ps : List PassageOperand}

/-- A RELAY row of at most 4 passages for the part is handed to the relay unit. -/
theorem State.relay_arrives (h4 : ps.length ≤ 4) (h : s.forPart hdr) (h0 : hdr.dstNode = 0) :
    exec (.relay hdr q origin status ps) s =
      .next ((s.heard (relayOperand hdr q origin status ps)).relayIn (relayOperand hdr q origin status ps)) := by
  have hexec : exec (.relay hdr q origin status ps) s = .next (s.lineArrival (judgeFrame (relayOperand hdr q origin status ps))) :=
    rfl
  have hkind : (relayOperand hdr q origin status ps).kind = 0x31 := rfl
  rw [hexec, judge_relay _ _ _ _ _ h4, State.lineArrival_checked h.1,
    State.routeLine_part (f := relayOperand hdr q origin status ps) (show (s.heard _).pins.ownStation = _ from h.2) h0,
    hkind, if_neg (by decide), if_pos rfl]

theorem State.relayIn_operand : s.relayIn (relayOperand hdr q origin status ps) =
    match s.tables.channelOf hdr.srcStation origin with
    | none => s.countMisrouted
    | some c =>
      match s.mode with
      | .config => s
      | .run => s.channelFrame c q (OriginStatus.ofByte status) ps := by
  rw [State.relayIn, relayPassages_operand]
  rfl

theorem State.relayIn_unmatched (h : ∀ c, ¬s.tables.carries hdr.srcStation origin c) :
    s.relayIn (relayOperand hdr q origin status ps) = s.countMisrouted := by
  rw [State.relayIn_operand, Tables.channelOf_eq_none h]

theorem State.relayIn_config {c : Fin 8} (hmode : s.mode = .config) (h : s.tables.carries hdr.srcStation origin c) :
    s.relayIn (relayOperand hdr q origin status ps) = s := by
  obtain ⟨d, hd⟩ := Tables.channelOf_of_carries h
  rw [State.relayIn_operand, hd, hmode]

theorem State.relayIn_run {c : Fin 8} (hmode : s.mode = .run) (h : s.tables.carries hdr.srcStation origin c)
    (hlow : ∀ d, d < c → ¬s.tables.carries hdr.srcStation origin d) :
    s.relayIn (relayOperand hdr q origin status ps) = s.channelFrame c q (OriginStatus.ofByte status) ps := by
  rw [State.relayIn_operand, Tables.channelOf_eq_some_iff.mpr ⟨h, hlow⟩, hmode]

end

/-- An origin status of 2 or above is FAULTY (R4). -/
theorem OriginStatus.ofByte_faulty {b : Byte} (h : 2 ≤ b.toNat) : OriginStatus.ofByte b = .faulty := by
  have h0 : b ≠ 0 := by rintro rfl; exact absurd h (by decide)
  have h1 : b ≠ 1 := by rintro rfl; exact absurd h (by decide)
  rw [OriginStatus.ofByte, if_neg h0, if_neg h1]

/-! ## What a frame makes of a channel's record, and whether its passages are applied (R132 to R134) -/

/-- The record after a frame that adopts the channel or is accepted as NORMAL (R132, R134). -/
def Channel.resumed (c : Channel) (q : Byte) (t : Timer) : Channel :=
  { c with state := .normal, expected := some (q + 1), missed := 0, lastOrigin := .normal, timer := t }

section
variable {c : Channel} {q : Byte} {st : OriginStatus} {t : Timer}

theorem Channel.frame_deaf (h : c.state = .off ∨ c.state = .faulty) : c.frame q st t = c ∧ c.applies q st = false := by
  unfold Channel.frame Channel.applies
  rcases h with h | h <;> rw [h] <;> exact ⟨rfl, Bool.and_false _⟩

theorem Channel.frame_adopts (h : c.state = .awaiting) :
    c.frame q .normal t = c.resumed q t ∧ c.applies q .normal = true := by
  unfold Channel.frame Channel.applies
  rw [h]
  exact ⟨rfl, rfl⟩

theorem Channel.frame_noted (h : c.state = .awaiting) (hst : st ≠ .normal) :
    c.frame q st t = { c with lastOrigin := st } ∧ c.applies q st = false := by
  unfold Channel.frame Channel.applies
  rw [h]
  cases st with
  | normal => exact absurd rfl hst
  | awaiting | faulty => exact ⟨rfl, rfl⟩

/-- Which branch a frame takes at a channel with a sequence chain (R133). -/
theorem Channel.frame_chained (h : c.state.chained) :
    c.frame q st t = (match judgeSeq c.expected q with
      | .repeated => c
      | .gap => c.enterFaulty .seqGap
      | .next => match st with
        | .normal => c.resumed q t
        | .awaiting => { c.enterAwaiting with lastOrigin := .awaiting }
        | .faulty => { c.enterFaulty .remoteFault with missed := 0, lastOrigin := .faulty }) ∧
      c.applies q st = (st == .normal && judgeSeq c.expected q == .next) := by
  unfold Channel.frame Channel.applies
  cases judgeSeq c.expected q with
  | repeated | gap => rcases h with h | h | h <;> rw [h] <;> exact ⟨rfl, rfl⟩
  | next => cases st <;> rcases h with h | h | h <;> rw [h] <;> exact ⟨rfl, rfl⟩

end

/-! ## The frame at its channel: the record, the delivery, the passages (R131 to R137) -/

theorem channelEvent_self (st : SourceState) (a : LossAction) : channelEvent st st a = none := by cases st <;> rfl

theorem SourceState.chained.channelEvent_faulty {old : SourceState} (h : old.chained) (a : LossAction) :
    channelEvent old .faulty a = some .faulty := by
  rcases h with rfl | rfl | rfl <;> rfl

theorem SourceState.chained.channelEvent_awaiting {old : SourceState} (h : old.chained) (a : LossAction) :
    channelEvent old .awaiting a = some .returned := by
  rcases h with rfl | rfl | rfl <;> rfl

section
variable {s : State} {c : Fin 8} {r : Channel} {e : SourceEvent} {q x : Byte} {st : OriginStatus} {ps : List PassageOperand}

theorem State.commitChannel_told (h : channelEvent s.channels[c].state r.state s.tables.relays[c].lossAction = some e) :
    s.commitChannel c r = (s.setChannel c r).deliver (channelSource c) e := by
  rw [State.commitChannel, h]
  rfl

theorem State.commitChannel_quiet (h : r.state = s.channels[c].state) : s.commitChannel c r = s.setChannel c r := by
  rw [State.commitChannel, h, channelEvent_self]
  rfl

theorem State.commitChannel_same : s.commitChannel c s.channels[c] = s := by
  rw [State.commitChannel_quiet rfl, State.setChannel, upd_same]

/-- The supervision timer of a channel, started now (R136). -/
def State.channelTimer (s : State) (c : Fin 8) : Timer := s.timerAfter (ticks10ms s.tables.relays[c].period)

theorem State.channelFrame_applied
    (h : s.channels[c].frame q st (s.channelTimer c) = r ∧ s.channels[c].applies q st = true) :
    s.channelFrame c q st ps = (s.commitChannel c r).applyPassages c ps := by
  obtain ⟨hr, happlies⟩ := h
  subst hr
  exact if_pos happlies

theorem State.channelFrame_unapplied
    (h : s.channels[c].frame q st (s.channelTimer c) = r ∧ s.channels[c].applies q st = false) :
    s.channelFrame c q st ps = s.commitChannel c r := by
  obtain ⟨hr, hkept⟩ := h
  subst hr
  exact if_neg (ne_true_of_eq_false hkept)

theorem State.channelFrame_deaf (h : s.channels[c].state = .off ∨ s.channels[c].state = .faulty) :
    s.channelFrame c q st ps = s := by
  rw [State.channelFrame_unapplied (Channel.frame_deaf h), State.commitChannel_same]

theorem State.channelFrame_adopts (h : s.channels[c].state = .awaiting) : s.channelFrame c q .normal ps =
    ((s.setChannel c (s.channels[c].resumed q (s.channelTimer c))).deliver (channelSource c) .supervised).applyPassages c ps := by
  rw [State.channelFrame_applied (Channel.frame_adopts h), State.commitChannel_told (by rw [h]; rfl)]

theorem State.channelFrame_noted (h : s.channels[c].state = .awaiting) (hst : st ≠ .normal) :
    s.channelFrame c q st ps = s.setChannel c { s.channels[c] with lastOrigin := st } := by
  rw [State.channelFrame_unapplied (Channel.frame_noted h hst)]
  exact State.commitChannel_quiet rfl

theorem State.channelFrame_repeated (h : s.channels[c].state.chained) (hx : s.channels[c].expected = some x) (hq : q = x - 1) :
    s.channelFrame c q st ps = s := by
  obtain ⟨hframe, happlies⟩ := Channel.frame_chained (q := q) (st := st) (t := s.channelTimer c) h
  rw [hx, hq, judgeSeq_repeated] at hframe happlies
  rw [hq, State.channelFrame_unapplied ⟨hframe, happlies.trans (Bool.and_false _)⟩, State.commitChannel_same]

theorem State.channelFrame_gap (h : s.channels[c].state.chained) (hx : s.channels[c].expected = some x) (hnext : q ≠ x)
    (hlast : q ≠ x - 1) : s.channelFrame c q st ps =
      (s.setChannel c (s.channels[c].enterFaulty .seqGap)).deliver (channelSource c) .faulty := by
  obtain ⟨hframe, happlies⟩ := Channel.frame_chained (q := q) (st := st) (t := s.channelTimer c) h
  rw [hx, judgeSeq_gap hlast hnext] at hframe happlies
  rw [State.channelFrame_unapplied ⟨hframe, happlies.trans (Bool.and_false _)⟩]
  exact State.commitChannel_told (h.channelEvent_faulty _)

/-- A frame in sequence with status NORMAL: the record resumes, and the passages follow the delivery (R134, R135). -/
theorem State.channelFrame_resumes (h : s.channels[c].state.chained) (hx : s.channels[c].expected = some q) :
    s.channelFrame c q .normal ps =
      (s.commitChannel c (s.channels[c].resumed q (s.channelTimer c))).applyPassages c ps := by
  obtain ⟨hframe, happlies⟩ := Channel.frame_chained (q := q) (st := .normal) (t := s.channelTimer c) h
  rw [hx, judgeSeq_next] at hframe happlies
  exact State.channelFrame_applied ⟨hframe, happlies⟩

theorem State.channelFrame_returned (h : s.channels[c].state.chained) (hx : s.channels[c].expected = some q) :
    s.channelFrame c q .awaiting ps =
      (s.setChannel c { s.channels[c].enterAwaiting with lastOrigin := .awaiting }).deliver (channelSource c) .returned := by
  obtain ⟨hframe, happlies⟩ := Channel.frame_chained (q := q) (st := .awaiting) (t := s.channelTimer c) h
  rw [hx, judgeSeq_next] at hframe happlies
  rw [State.channelFrame_unapplied ⟨hframe, happlies⟩]
  exact State.commitChannel_told (h.channelEvent_awaiting _)

theorem State.channelFrame_remoteFault (h : s.channels[c].state.chained) (hx : s.channels[c].expected = some q) :
    s.channelFrame c q .faulty ps = (s.setChannel c
      { s.channels[c].enterFaulty .remoteFault with missed := 0, lastOrigin := .faulty }).deliver (channelSource c) .faulty := by
  obtain ⟨hframe, happlies⟩ := Channel.frame_chained (q := q) (st := .faulty) (t := s.channelTimer c) h
  rw [hx, judgeSeq_next] at hframe happlies
  rw [State.channelFrame_unapplied ⟨hframe, happlies⟩]
  exact State.commitChannel_told (h.channelEvent_faulty _)

end

/-- Settles O49: the match decides who takes the frame, then the channel's state, the sequence and the status. -/
theorem relayFramesActOnTheirChannel : Obligations.RelayFramesActOnTheirChannel := by
  unfold Obligations.RelayFramesActOnTheirChannel
  intro s hdr seq origin status ps h4 hpart h0 u row matches'
  have hrow : row = .next (u.relayIn (relayOperand hdr seq origin status ps)) := State.relay_arrives h4 hpart h0
  refine ⟨fun hno => ?_, fun hmode ⟨c, hc⟩ => ?_, fun c hmode hc hlow => ?_⟩
  · rw [hrow, State.relayIn_unmatched (s := u) hno, State.countMisrouted_eq]
  · rw [hrow, State.relayIn_config (s := u) hmode hc]
  intro r n put timer normal apply
  rw [hrow, State.relayIn_run (s := u) hmode hc hlow]
  refine ⟨fun hr => congrArg _ (State.channelFrame_deaf hr), ?_, ?_, fun hr hst => ?_, fun e hr he => ⟨?_, ?_, fun hseq hst => ?_,
    fun hseq => congrArg _ (State.channelFrame_repeated hr he hseq),
    fun hnext hlast => congrArg _ (State.channelFrame_gap hr he hnext hlast)⟩⟩
  · rintro hr rfl
    exact congrArg _ (State.channelFrame_adopts hr)
  · rintro hr rfl
    exact congrArg _ (State.channelFrame_noted hr (by decide))
  · rw [OriginStatus.ofByte_faulty hst]
    exact congrArg _ (State.channelFrame_noted hr (by decide))
  · rintro rfl rfl
    have hresumes : u.channelFrame c seq .normal ps = apply (u.commitChannel c normal) := State.channelFrame_resumes hr he
    refine ⟨fun hold => ?_, fun hold => ?_, fun hold => ?_⟩
    · rw [State.commitChannel_quiet hold.symm] at hresumes
      exact congrArg _ hresumes
    · rw [State.commitChannel_told (e := .normal) (by rw [show u.channels[c].state = .late from hold]; rfl)] at hresumes
      exact congrArg _ hresumes
    · rw [State.commitChannel_told (e := .supervised) (by rw [show u.channels[c].state = .lost from hold]; rfl)] at hresumes
      exact congrArg _ hresumes
  · rintro rfl rfl
    exact congrArg _ (State.channelFrame_returned hr he)
  · subst hseq
    rw [OriginStatus.ofByte_faulty hst]
    exact congrArg _ (State.channelFrame_remoteFault hr he)

end Sys2Proof.Machine
end

section
/-! SUPPORT. Requests without parameters: RESTART (R173), NOTICE_HOLD and NOTICE_RELEASE (R146, R147). -/

namespace Sys2Proof.Machine

/-! ## The actions of RESTART, NOTICE_HOLD and NOTICE_RELEASE (R146, R147, R173) -/

section
variable (s : State) (p : List Byte)

theorem State.act_restart : s.act .restart p = ({ s with pendingRestart := true } : State).okay := rfl

theorem State.act_noticeHold :
    s.act .noticeHold p = ({ s with notice := { s.notice with hold := .held } } : State).okay := rfl

theorem State.act_noticeRelease :
    s.act .noticeRelease p = ({ s with notice := { s.notice with hold := .free } } : State).okay := rfl

end

/-- A request without parameters past steps 1 to 5 of R163 whose action is taken is answered OK. -/
theorem State.bareRequest_taken {s t : State} {hdr : Header} {c : RequestCode} {tag : Byte} (hto : s.toManagement hdr)
    (hlen : c.lengthIs 2) (hp : s.allowed c hdr) (hact : (s.heard (requestOperand hdr c tag [])).act c [] = t.okay) :
    exec (c.row hdr tag []) s = .next (t.answered hdr c.byte tag ⟨.ok, []⟩ (c == .restart)) := by
  rw [State.request_acts hto c tag [] (Nat.zero_le 62) hlen hp, hact, State.okay]

/-- Settles O57: each request is permitted from its station, and its action alone makes the next state. -/
theorem restartAndHoldAreTaken : Obligations.RestartAndHoldAreTaken := by
  unfold Obligations.RestartAndHoldAreTaken
  intro s hdr tag hto
  refine ⟨fun hmaintenance => ?_, fun hinterlocking => ?_, fun hinterlocking => ?_⟩
  · exact State.bareRequest_taken hto (c := .restart) rfl hmaintenance (State.act_restart ..)
  · exact State.bareRequest_taken hto (c := .noticeHold) rfl hinterlocking (State.act_noticeHold ..)
  · exact State.bareRequest_taken hto (c := .noticeRelease) rfl hinterlocking (State.act_noticeRelease ..)

end Sys2Proof.Machine
end

section
/-! SUPPORT. The watch unit (chapter 9): which entries a frame matches (R156), the firings of an offer in turn (R157 to
R159), and the requests WATCH_SET (R175) and CAPTURE (R160). -/

namespace Sys2Proof.Machine

/-! ## Matching (R156) -/

theorem WatchPort.covers_iff (p : WatchPort) (onLine : Bool) : p.covers onLine = true ↔
    p = .either ∨ (p = .line ∧ onLine = true) ∨ (p = .field ∧ onLine = false) := by
  cases p <;> cases onLine <;> decide

theorem PayloadTest.passes_iff (t : PayloadTest) (payload : List Byte) : t.passes payload = true ↔
    t.offset.val < payload.length ∧ ∀ i, i < 8 → t.mask.getLsbD i = false →
      (byteAt payload t.offset.val).getLsbD i = t.value.getLsbD i := by
  rw [PayloadTest.passes, Bool.and_eq_true, decide_eq_true_eq, maskedEq_iff]

theorem WatchEntry.hits_iff (w : WatchEntry) (onLine : Bool) (f : Frame) : w.hits onLine f = true ↔
    w.mode ≠ .off ∧ (w.port = .either ∨ (w.port = .line ∧ onLine = true) ∨ (w.port = .field ∧ onLine = false)) ∧
      (∀ i, i < 8 → w.nodeMask.getLsbD i = false → f.hdr.srcNode.getLsbD i = w.node.getLsbD i) ∧
      (w.kind = 0 ∨ w.kind = f.kind) ∧ ∀ t, w.test = some t → t.passes f.payload = true := by
  obtain ⟨mode, port, node, nodeMask, kind, test⟩ := w
  cases test <;> simp [WatchEntry.hits, WatchPort.covers_iff, maskedEq_iff, and_assoc]

/-! ## A list that takes entries while it has room (R158, R159) -/

section
variable {α : Type} (l : List α) (n : Nat)

theorem append_if_room (x : α) : (if l.length < n then l ++ [x] else l) = l ++ [x].take (n - l.length) := by
  split
  · next hroom => rw [List.take_of_length_le (show [x].length ≤ n - l.length from Nat.sub_pos_of_lt hroom)]
  · next hfull => rw [Nat.sub_eq_zero_of_le (not_lt.mp hfull), List.take_zero, List.append_nil]

/-- Entries that join in turn leave the same list as their whole run cut to the room there was at first. -/
theorem append_room_cons (x : α) (xs : List α) :
    (l ++ [x].take (n - l.length)) ++ xs.take (n - (l ++ [x].take (n - l.length)).length) =
      l ++ (x :: xs).take (n - l.length) := by
  rcases hroom : n - l.length with _ | room
  · simp [hroom]
  · have hrest : n - (l.length + 1) = room := by omega
    simp [hrest]

end

section
variable (w : Watch)

theorem Watch.keep_entries (c : Capture) : (w.keep c).entries = w.entries := by unfold Watch.keep; split <;> rfl
theorem Watch.keep_notices (c : Capture) : (w.keep c).notices = w.notices := by unfold Watch.keep; split <;> rfl

theorem Watch.keep_captures (c : Capture) :
    (w.keep c).captures = w.captures ++ [c].take (8 - w.captures.length) := by
  rw [← append_if_room]
  exact apply_ite Watch.captures ..

theorem Watch.announce_entries (n : Frame) : (w.announce n).entries = w.entries := by
  unfold Watch.announce; split <;> rfl
theorem Watch.announce_captures (n : Frame) : (w.announce n).captures = w.captures := by
  unfold Watch.announce; split <;> rfl

theorem Watch.announce_notices (n : Frame) :
    (w.announce n).notices = w.notices ++ [n].take (8 - w.notices.length) := by
  rw [← append_if_room]
  exact apply_ite Watch.notices ..

end

/-! ## Firings in turn (R157) -/

theorem WatchEntry.fired_eq (w : WatchEntry) : w.fired = { w with mode := if w.mode = .once then .off else w.mode } := by
  unfold WatchEntry.fired
  split <;> rfl

/-- The capture record of a firing (R158). -/
def State.captureOf (s : State) (f : Frame) (e : Fin 4) : Capture := ⟨e, s.partTime, f.body⟩

/-- The notice of the firing that `i` others of the same offer came before, which may have filled the buffer (R159). -/
def State.noticeAfter (s : State) (f : Frame) (i : Nat) (e : Fin 4) : Frame :=
  s.watchNotice e (decide (s.watch.captures.length + i < 8)) f

/-- The entries listed fire in turn. -/
def State.fires (s : State) (f : Frame) (es : List (Fin 4)) : State := es.foldl (fun s e => s.fire f e) s

section
variable (s : State) (f : Frame) (e : Fin 4) (es : List (Fin 4))

theorem State.fires_cons : s.fires f (e :: es) = (s.fire f e).fires f es := rfl

theorem State.fire_entries : (s.fire f e).watch.entries = upd s.watch.entries e s.watch.entries[e].fired := by
  simp only [State.fire, State.setWatch_watch, Watch.announce_entries, Watch.keep_entries]

theorem State.fire_captures : (s.fire f e).watch.captures =
    s.watch.captures ++ [s.captureOf f e].take (8 - s.watch.captures.length) := by
  simp only [State.fire, State.setWatch_watch, Watch.announce_captures, Watch.keep_captures]
  rfl

theorem State.fire_notices : (s.fire f e).watch.notices =
    s.watch.notices ++ [s.noticeAfter f 0 e].take (8 - s.watch.notices.length) := by
  simp only [State.fire, State.setWatch_watch, Watch.announce_notices, Watch.keep_notices]
  rfl

theorem State.fire_noticeAfter (i : Nat) (j : Fin 4) :
    (s.fire f e).noticeAfter f i j = s.noticeAfter f (i + 1) j := by
  have hkept : (s.fire f e).watch.captures.length + i < 8 ↔ s.watch.captures.length + (i + 1) < 8 := by
    rw [State.fire_captures, List.length_append, List.length_take, List.length_singleton]
    omega
  exact congrArg (fun kept => s.watchNotice j kept f) (decide_eq_decide.mpr hkept)

theorem State.fires_captures : (s.fires f es).watch.captures =
    s.watch.captures ++ (es.map (s.captureOf f)).take (8 - s.watch.captures.length) := by
  induction es generalizing s with
  | nil => simp [State.fires]
  | cons e es ih =>
    have hcapture : (s.fire f e).captureOf f = s.captureOf f := rfl
    rw [State.fires_cons, ih, hcapture, State.fire_captures, append_room_cons, List.map_cons]

theorem State.fires_notices : (s.fires f es).watch.notices =
    s.watch.notices ++ (es.mapIdx (s.noticeAfter f)).take (8 - s.watch.notices.length) := by
  induction es generalizing s with
  | nil => simp [State.fires]
  | cons e es ih =>
    have hlater : (s.fire f e).noticeAfter f = fun i => s.noticeAfter f (i + 1) :=
      funext fun i => funext fun j => s.fire_noticeAfter f e i j
    rw [State.fires_cons, ih, hlater, State.fire_notices, append_room_cons, List.mapIdx_cons]

theorem State.fires_entries {j : Fin 4} (h : j ∉ es) : (s.fires f es).watch.entries[j] = s.watch.entries[j] := by
  induction es generalizing s with
  | nil => rfl
  | cons e es ih =>
    obtain ⟨hne, hrest⟩ := not_or.mp (mt List.mem_cons.mpr h)
    rw [State.fires_cons, ih _ hrest, State.fire_entries, upd_get_ne _ (Ne.symm hne)]

theorem State.fires_entries_fired {es : List (Fin 4)} (hnodup : es.Nodup) {j : Fin 4} (h : j ∈ es) :
    (s.fires f es).watch.entries[j] = s.watch.entries[j].fired := by
  induction es generalizing s with
  | nil => cases h
  | cons e es ih =>
    obtain ⟨hfirst, hnodup⟩ := List.nodup_cons.mp hnodup
    rw [State.fires_cons]
    rcases List.mem_cons.mp h with rfl | hlater
    · rw [State.fires_entries _ _ _ hfirst, State.fire_entries, upd_get_self]
    · have hne : e ≠ j := fun he => hfirst (he ▸ hlater)
      rw [ih _ hnodup hlater, State.fire_entries, upd_get_ne _ hne]

end

/-! ## An offer is the firings of the entries that match at its start -/

/-- The entries a frame matches, in ascending order. -/
def State.matching (s : State) (onLine : Bool) (f : Frame) : List (Fin 4) :=
  (List.finRange 4).filter fun e => s.watch.entries[e].hits onLine f

section
variable (s : State) (onLine : Bool) (f : Frame)

theorem State.mem_matching (e : Fin 4) : e ∈ s.matching onLine f ↔ s.watch.entries[e].hits onLine f = true := by
  simp [State.matching]

theorem State.matching_ascending : (s.matching onLine f).Pairwise (· < ·) :=
  (List.pairwise_lt_finRange 4).filter _

theorem State.matching_nodup : (s.matching onLine f).Nodup := (List.nodup_finRange 4).filter _

/-- A firing changes its own entry alone, so each entry still to come is judged as it stood at the start. -/
theorem State.offers_eq_fires {es : List (Fin 4)} (hnodup : es.Nodup) :
    es.foldl (fun s e => if s.watch.entries[e].hits onLine f then s.fire f e else s) s =
      s.fires f (es.filter fun e => s.watch.entries[e].hits onLine f) := by
  induction es generalizing s with
  | nil => rfl
  | cons e es ih =>
    obtain ⟨hfirst, hnodup⟩ := List.nodup_cons.mp hnodup
    rw [List.foldl_cons, ih _ hnodup]
    by_cases hit : s.watch.entries[e].hits onLine f = true
    · have hlater : (es.filter fun j => (s.fire f e).watch.entries[j].hits onLine f) =
          es.filter fun j => s.watch.entries[j].hits onLine f := by
        refine List.filter_congr fun j hj => ?_
        have hne : e ≠ j := fun he => hfirst (he ▸ hj)
        rw [State.fire_entries, upd_get_ne _ hne]
      rw [if_pos hit, hlater, List.filter_cons, if_pos hit, State.fires_cons]
    · rw [if_neg hit, List.filter_cons, if_neg hit]

theorem State.offer_eq_fires : s.offer onLine f = s.fires f (s.matching onLine f) :=
  s.offers_eq_fires onLine f (List.nodup_finRange 4)

end

/-- Settles O29: an offer is the firings of the matching entries, and each list takes what it has room for. -/
theorem matchingEntriesFire : Obligations.MatchingEntriesFire := by
  unfold Obligations.MatchingEntriesFire
  intro s onLine f agree hit t
  have ht : t = s.fires f (s.matching onLine f) := s.offer_eq_fires onLine f
  have hmem (e : Fin 4) : e ∈ s.matching onLine f ↔ hit e := by
    rw [State.mem_matching, WatchEntry.hits_iff]
    simp only [PayloadTest.passes_iff]
    rfl
  refine ⟨s.offer_frame onLine f, fun e => ⟨fun hno => ?_, fun hyes => ?_⟩,
    s.matching onLine f, s.matching_ascending onLine f, hmem, ?_, ?_⟩
  · rw [ht, State.fires_entries _ _ _ (mt (hmem e).mp hno)]
  · rw [ht, State.fires_entries_fired _ _ (s.matching_nodup onLine f) ((hmem e).mpr hyes), WatchEntry.fired_eq]
  · rw [ht]
    exact s.fires_captures f _
  · rw [ht, State.fires_notices]
    unfold State.noticeAfter State.watchNotice
    simp only [decide_eq_true_eq]
    rfl

/-! ## A request past steps 1 to 5 of R163 -/

/-- Any request but RESTART is answered from the state its action leaves. -/
theorem State.request_answered {s t : State} {hdr : Header} {c : RequestCode} {tag : Byte} {params : List Byte} {r : Reply}
    (hto : s.toManagement hdr) (hl : params.length ≤ 62) (hlen : c.lengthIs (params.length + 2)) (hp : s.allowed c hdr)
    (hc : (c == .restart) = false) (hact : (s.heard (requestOperand hdr c tag params)).act c params = (t, r)) :
    exec (c.row hdr tag params) s = .next (t.answered hdr c.byte tag r) := by
  rw [State.request_acts hto c tag params hl hlen hp, hact, hc]

/-! ## WATCH_SET (R175) -/

theorem watchInRange_iff (p : List Byte) : watchInRange p = true ↔
    ¬(3 < (byteAt p 0).toNat ∨ 2 < (byteAt p 1).toNat ∨ 2 < (byteAt p 2).toNat ∨ 1 < (byteAt p 6).toNat ∨
      (byteAt p 6 = 1 ∧ 63 < (byteAt p 7).toNat)) := by
  have htest : byteAt p 6 = 0 ↔ (byteAt p 6).toNat = 0 := BitVec.toNat_inj.symm
  have hone : byteAt p 6 = 1 ↔ (byteAt p 6).toNat = 1 := BitVec.toNat_inj.symm
  simp only [watchInRange, Bool.and_eq_true, Bool.or_eq_true, decide_eq_true_eq, beq_iff_eq, htest, hone]
  omega

section
variable (s : State) {p : List Byte}

theorem State.doWatchSet_range (h : ¬watchInRange p = true) : s.doWatchSet p = s.refuse .range := if_neg h

theorem State.doWatchSet_replaces (h : watchInRange p = true) {e : Fin 4} (he : (byteAt p 0).toNat = e.val) :
    s.doWatchSet p = (s.setWatch { s.watch with entries := upd s.watch.entries e (watchEntryOf p) }).okay := by
  have hentry : Fin.ofNat 4 (byteAt p 0).toNat = e := by rw [he]; exact Fin.ofNat_val_eq_self e
  rw [State.doWatchSet, if_pos h, hentry]

end

section
variable {p : List Byte} {e : Fin 4} {m : WatchMode} {q : WatchPort} {x : Option PayloadTest}
variable (he : (byteAt p 0).toNat = e.val)
variable (hm : byteAt p 1 = 0 ∧ m = .off ∨ byteAt p 1 = 1 ∧ m = .once ∨ byteAt p 1 = 2 ∧ m = .every)
variable (hq : byteAt p 2 = 0 ∧ q = .field ∨ byteAt p 2 = 1 ∧ q = .line ∨ byteAt p 2 = 2 ∧ q = .either)
variable (hx : byteAt p 6 = 0 ∧ x = none ∨
  byteAt p 6 = 1 ∧ ∃ o : Fin 64, (byteAt p 7).toNat = o.val ∧ x = some ⟨o, byteAt p 8, byteAt p 9⟩)

include hm in
theorem watchEntryOf_mode : (watchEntryOf p).mode = m := by
  unfold watchEntryOf
  rcases hm with ⟨hb, rfl⟩ | ⟨hb, rfl⟩ | ⟨hb, rfl⟩ <;> rw [hb] <;> rfl

include hq in
theorem watchEntryOf_port : (watchEntryOf p).port = q := by
  unfold watchEntryOf
  rcases hq with ⟨hb, rfl⟩ | ⟨hb, rfl⟩ | ⟨hb, rfl⟩ <;> rw [hb] <;> rfl

include hx in
theorem watchEntryOf_test : (watchEntryOf p).test = x := by
  have htest : (watchEntryOf p).test = testOf p := rfl
  rw [htest, testOf]
  rcases hx with ⟨hb, rfl⟩ | ⟨hb, o, ho, rfl⟩
  · rw [hb, if_pos rfl]
  · rw [hb, if_neg (by decide), ho, Fin.ofNat_val_eq_self]

include hm hq hx

theorem watchEntryOf_spelled :
    watchEntryOf p = ⟨m, q, byteAt p 3, byteAt p 4, byteAt p 5, x⟩ := by
  rw [← watchEntryOf_mode hm, ← watchEntryOf_port hq, ← watchEntryOf_test hx]
  rfl

include he

theorem watchInRange_of_spelled : watchInRange p = true := by
  have hentry : (byteAt p 0).toNat ≤ 3 := by omega
  have hmode : (byteAt p 1).toNat ≤ 2 := by
    rcases hm with ⟨hb, -⟩ | ⟨hb, -⟩ | ⟨hb, -⟩ <;> rw [hb] <;> decide
  have hport : (byteAt p 2).toNat ≤ 2 := by
    rcases hq with ⟨hb, -⟩ | ⟨hb, -⟩ | ⟨hb, -⟩ <;> rw [hb] <;> decide
  have htest : (byteAt p 6).toNat ≤ 1 ∧ (byteAt p 6 = 1 → (byteAt p 7).toNat ≤ 63) := by
    rcases hx with ⟨hb, -⟩ | ⟨hb, o, ho, -⟩
    · rw [hb]
      exact ⟨by decide, fun h => absurd h (by decide)⟩
    · rw [hb]
      exact ⟨le_refl _, fun _ => by omega⟩
  simp only [watchInRange_iff, not_or, not_and, not_lt]
  exact ⟨hentry, hmode, hport, htest⟩

end

/-! ## CAPTURE (R160) -/

section
variable (s : State) {p : Byte}

theorem State.doCapture_range (h1 : p ≠ 1) (h2 : p ≠ 2) : s.doCapture [p] = s.refuse .range :=
  if_neg (not_or.mpr ⟨h1, h2⟩)

/-- The records counted are returned and removed. -/
theorem State.doCapture_returns {rs rest : List Capture} (hp : p = 1 ∨ p = 2) (hbuffer : s.watch.captures = rs ++ rest)
    (hcount : captureCount p.toNat s.watch.captures = rs.length) :
    s.doCapture [p] = (s.setWatch { s.watch with captures := rest },
      ⟨.ok, BitVec.ofNat 8 rs.length :: rs.flatMap Capture.bytesOut⟩) := by
  have hn : captureCount (byteAt [p] 0).toNat s.watch.captures = rs.length := hcount
  have hdrop : s.watch.captures.drop rs.length = rest := by rw [hbuffer, List.drop_left]
  have htake : s.watch.captures.take rs.length = rs := by rw [hbuffer, List.take_left]
  unfold State.doCapture
  rw [if_pos (show byteAt [p] 0 = 1 ∨ byteAt [p] 0 = 2 from hp)]
  simp only [hn, hdrop, htake]

end

section
variable {a b : Capture} {rest : List Capture}

/-- One record is returned when one is asked for, or one is all there is. -/
theorem captureCount_one {p : Byte} (h : p = 1 ∨ rest = []) : captureCount p.toNat (a :: rest) = 1 := by
  rcases h with rfl | rfl
  · cases rest with
    | nil => rfl
    | cons b rest =>
      unfold captureCount
      exact if_neg fun ⟨htwo, _⟩ => absurd htwo (by decide)
  · rfl

theorem captureCount_fits (h : 1 + (6 + a.bytes.length) + (6 + b.bytes.length) ≤ 61) :
    captureCount 2 (a :: b :: rest) = 2 := if_pos ⟨le_refl 2, h⟩

theorem captureCount_tooLong (h : 61 < 1 + (6 + a.bytes.length) + (6 + b.bytes.length)) :
    captureCount 2 (a :: b :: rest) = 1 := if_neg fun hfits => absurd hfits.2 (not_le.mpr h)

end

/-- Settles O58: the parameters in range spell the entry, and the records counted are returned and removed. -/
theorem watchSetAndCaptureAreTaken : Obligations.WatchSetAndCaptureAreTaken := by
  unfold Obligations.WatchSetAndCaptureAreTaken
  refine ⟨?_, ?_⟩
  · intro s hdr tag entry mode port node nodeMask kind test offset value mask hto hfrom params u
    refine ⟨fun hout => ?_, fun e m q x he hm hq hx => ?_⟩
    · have hrange : ¬watchInRange params = true := fun hin => (watchInRange_iff params).mp hin hout
      exact State.answersOnly_of_act hto (show 10 ≤ 62 by decide) rfl hfrom rfl (State.doWatchSet_range u hrange)
    · have hact := State.doWatchSet_replaces u (watchInRange_of_spelled (p := params) he hm hq hx) (e := e) he
      rw [watchEntryOf_spelled (p := params) hm hq hx] at hact
      exact State.request_answered (c := .watchSet) (params := params) hto (show 10 ≤ 62 by decide) rfl hfrom rfl hact
  · intro s hdr tag p hto hstation hsender u record gives
    have hallowed : s.allowed .capture hdr := ⟨hstation, hsender⟩
    have hgives {rs rest : List Capture} (hp : p = 1 ∨ p = 2) (hbuffer : u.watch.captures = rs ++ rest)
        (hcount : captureCount p.toNat u.watch.captures = rs.length) : gives rs rest :=
      State.request_answered (c := .capture) (params := [p]) hto (show 1 ≤ 62 by decide) rfl hallowed rfl
        (State.doCapture_returns u hp hbuffer hcount)
    refine ⟨fun h1 h2 => ?_, fun hp hnone => ?_, fun a rest hone hp hbuffer => ?_,
      fun a b rest hp hbuffer => ⟨fun h => ?_, fun h => ?_⟩⟩
    · exact State.answersOnly_of_act hto (show 1 ≤ 62 by decide) rfl hallowed rfl (State.doCapture_range u h1 h2)
    · exact hgives hp hnone (by rw [hnone]; rfl)
    · exact hgives hp hbuffer (by rw [hbuffer]; exact captureCount_one hone)
    · subst hp
      exact hgives (.inr rfl) hbuffer (by rw [hbuffer]; exact captureCount_fits h)
    · subst hp
      exact hgives (rs := [a]) (.inr rfl) hbuffer (by rw [hbuffer]; exact captureCount_tooLong h)

end Sys2Proof.Machine
end

section
/-! SUPPORT. The records of a WRITE as bytes (1.4, R167 to R169): what a record's parser accepts and refuses, the records a
WRITE replaces, and the bytes a READ then returns. -/

namespace Sys2Proof.Machine

/-! ## One record: the checks of its fields (R168) -/

section
variable {α : Type} {checks : List (Nat × Bool)} {r : α} {f : Nat}

theorem firstBad_failed_cons (n : Nat) : firstBad ((n, false) :: checks) = some n := rfl

theorem firstBad_passed_cons (n : Nat) : firstBad ((n, true) :: checks) = firstBad checks := rfl

/-- With the checks in the order of their fields, the field refused is the lowest whose check fails. -/
theorem firstBad_eq_some_iff (hsorted : checks.Pairwise fun c d => c.1 < d.1) :
    firstBad checks = some f ↔ (f, false) ∈ checks ∧ ∀ g, g < f → (g, false) ∉ checks := by
  induction checks with
  | nil => exact iff_of_false nofun (fun h => List.not_mem_nil h.1)
  | cons c checks ih =>
    obtain ⟨n, ok⟩ := c
    obtain ⟨hfirst, hrest⟩ := List.pairwise_cons.mp hsorted
    cases ok with
    | true => simp only [firstBad_passed_cons, ih hrest, List.mem_cons, Prod.mk.injEq, Bool.false_eq_true, and_false, false_or]
    | false =>
      rw [firstBad_failed_cons, Option.some_inj]
      constructor
      · rintro rfl
        refine ⟨List.mem_cons_self, fun g hg hmem => ?_⟩
        rcases List.mem_cons.mp hmem with heq | hmem
        · exact absurd (congrArg Prod.fst heq) (Nat.ne_of_lt hg)
        · exact absurd (hfirst _ hmem) (Nat.lt_asymm hg)
      · rintro ⟨hmem, hlow⟩
        rcases List.mem_cons.mp hmem with heq | hmem
        · exact (congrArg Prod.fst heq).symm
        · exact absurd List.mem_cons_self (hlow n (hfirst _ hmem))

theorem readRecord_error_iff : readRecord checks r = .error f ↔ firstBad checks = some f := by
  unfold readRecord
  split <;> simp_all

theorem readRecord_ok_iff {r' : α} : readRecord checks r = .ok r' ↔ firstBad checks = none ∧ r = r' := by
  unfold readRecord
  split <;> simp_all

end

/-- A parser refuses a record of the table exactly at its lowest field out of range. -/
def TableId.RefusedBy {α : Type} (id : TableId) (parse : List Byte → Except Nat α) : Prop :=
  ∀ b f, parse b = .error f ↔ id.outOfRange b f ∧ ∀ g, g < f → ¬id.outOfRange b g

section
variable {α : Type} {id : TableId} {b : List Byte}

/-- The checks of a record stand in the order of its fields, and fail at the fields out of range. -/
theorem readRecord_refused {checks : List (Nat × Bool)} {r : α} {f : Nat} (hsorted : checks.Pairwise fun c d => c.1 < d.1)
    (hchecks : ∀ g, (g, false) ∈ checks ↔ id.outOfRange b g) :
    readRecord checks r = .error f ↔ id.outOfRange b f ∧ ∀ g, g < f → ¬id.outOfRange b g := by
  rw [readRecord_error_iff, firstBad_eq_some_iff hsorted]
  simp only [hchecks]

/-- A record is accepted exactly when no field of it is out of range. -/
theorem TableId.RefusedBy.accepts_iff {parse : List Byte → Except Nat α} (h : id.RefusedBy parse) :
    (∃ r, parse b = .ok r) ↔ ∀ f, ¬id.outOfRange b f := by
  constructor
  · rintro ⟨r, hr⟩ f hf
    classical
    have hlowest := (h b (Nat.find ⟨f, hf⟩)).mpr ⟨Nat.find_spec ⟨f, hf⟩, fun g hg => Nat.find_min ⟨f, hf⟩ hg⟩
    rw [hr] at hlowest
    cases hlowest
  · intro hall
    cases hp : parse b with
    | ok r => exact ⟨r, rfl⟩
    | error f => exact absurd ((h b f).mp hp).1 (hall f)

end

/-! ## The checks, each against its range -/

@[simp] theorem failed_mem_cons {checks : List (Nat × Bool)} {f n : Nat} {ok : Bool} :
    (f, false) ∈ (n, ok) :: checks ↔ (f = n ∧ ok = false) ∨ (f, false) ∈ checks := by
  rw [List.mem_cons, Prod.mk.injEq, eq_comm (a := false)]

@[simp] theorem inRange_eq_false_iff {lo hi n : Nat} : inRange lo hi n = false ↔ n < lo ∨ hi < n := by
  simp only [inRange, Bool.and_eq_false_iff, decide_eq_false_iff_not, not_le]

@[simp] theorem stationOk_eq_false_iff {b : Byte} : stationOk b = false ↔ 239 < b.toNat := by
  simp only [stationOk, decide_eq_false_iff_not, not_le]

theorem windowOk_eq_false_iff {first last : Byte} : windowOk first last = false ↔
    ¬(first.toNat = 0 ∧ last.toNat = 0) ∧ ¬(1 ≤ first.toNat ∧ first.toNat ≤ last.toNat ∧ last.toNat ≤ 63) := by
  have hzero (b : Byte) : b = 0 ↔ b.toNat = 0 := BitVec.toNat_inj.symm
  rw [← Bool.not_eq_true]
  simp only [windowOk, inRange, Bool.or_eq_true, Bool.and_eq_true, beq_iff_eq, decide_eq_true_eq, hzero]
  omega

/-- The reserved bits 2 to 6 of a RELAY record's flags (1.4). -/
theorem reservedBits_eq_false_iff {b : Byte} :
    (b.extractLsb' 2 5 == 0) = false ↔ ∃ i ∈ [2, 3, 4, 5, 6], b.getLsbD i = true := by
  revert b
  decide

/-- The section of a BOUNDARY record, or 255 for none (1.4). -/
theorem sectionField_eq_false_iff {b : Byte} : (inRange 0 23 b.toNat || b == 255) = false ↔ 23 < b.toNat ∧ b.toNat ≠ 255 := by
  have h255 : b = 255 ↔ b.toNat = 255 := BitVec.toNat_inj.symm
  rw [Bool.or_eq_false_iff, inRange_eq_false_iff, beq_eq_false_iff_ne, Ne, h255]
  omega

/-! ## Each parser refuses by the ranges of its table (R168) -/

theorem PartRec.parse_refuses : TableId.part.RefusedBy PartRec.parse := fun _ _ =>
  readRecord_refused (by simp) fun g => by
    simp only [failed_mem_cons, windowOk_eq_false_iff]
    simp [TableId.outOfRange]

theorem HeadRec.parse_refuses : TableId.head.RefusedBy HeadRec.parse := fun _ _ =>
  readRecord_refused (by simp) fun g => by simp [TableId.outOfRange]

theorem RelayRec.parse_refuses : TableId.relay.RefusedBy RelayRec.parse := fun _ _ =>
  readRecord_refused (by simp) fun g => by
    simp only [failed_mem_cons, reservedBits_eq_false_iff]
    simp [TableId.outOfRange]

theorem SectionRec.parse_refuses : TableId.sec.RefusedBy SectionRec.parse := fun _ _ =>
  readRecord_refused (by simp) fun g => by simp [TableId.outOfRange]

theorem BoundaryRec.parse_refuses : TableId.boundary.RefusedBy BoundaryRec.parse := fun _ _ =>
  readRecord_refused (by simp) fun g => by
    simp only [failed_mem_cons, sectionField_eq_false_iff]
    simp [TableId.outOfRange]

theorem FilterRec.parse_refuses : TableId.filter.RefusedBy FilterRec.parse := fun _ _ =>
  readRecord_refused (by simp) fun g => by simp [TableId.outOfRange]

theorem LineRec.parse_refuses : TableId.line.RefusedBy LineRec.parse := fun _ _ =>
  readRecord_refused (by simp) fun g => by simp [TableId.outOfRange]

/-! ## An accepted record read back (1.4, R169) -/

/-- The bytes of a record a parser accepts are those it was read from. -/
def TableId.ReadBackBy {α : Type} (id : TableId) (parse : List Byte → Except Nat α) (bytes : α → List Byte) : Prop :=
  ∀ b r, b.length = id.size → parse b = .ok r → bytes r = b

theorem TableId.RefusedBy.inRange {α : Type} {id : TableId} {parse : List Byte → Except Nat α} {b : List Byte} {r : α}
    (h : id.RefusedBy parse) (hr : parse b = .ok r) (f : Nat) : ¬id.outOfRange b f := h.accepts_iff.mp ⟨r, hr⟩ f

theorem map_byteAt_take {b : List Byte} {n : Nat} (h : n ≤ b.length) : (List.range n).map (byteAt b) = b.take n := by
  refine List.ext_getElem (by simp [h]) fun i hi _ => ?_
  have hb : i < b.length := Nat.lt_of_lt_of_le (by simpa using hi) h
  simp [byteAt, hb]

theorem map_byteAt {b : List Byte} {n : Nat} (h : b.length = n) : (List.range n).map (byteAt b) = b := by
  rw [map_byteAt_take h.ge, ← h, List.take_length]

theorem bytes16_halfAt (b : List Byte) (i : Nat) : bytes16 (halfAt b i) = [byteAt b i, byteAt b (i + 1)] := by
  obtain ⟨hhigh, hlow⟩ := be16_injective (be16_bytes (halfAt b i))
  rw [bytes16, hhigh, hlow]

theorem lossOfBit_bit (b : Bool) : (lossOfBit b).bit = b := by cases b <;> rfl

/-- The flags of a HEAD record, in bits 0 to 2. -/
theorem headFlags_bytes {x : Byte} (h : x.toNat ≤ 7) :
    flagBit 0 (x.getLsbD 0) ||| flagBit 1 (lossOfBit (x.getLsbD 1)).bit ||| flagBit 2 (x.getLsbD 2) = x := by
  revert x
  decide

/-- The flags of a SECTION or a FILTER record, in bits 0 and 1. -/
theorem twoFlags_bytes {x : Byte} (h : x.toNat ≤ 3) : flagBit 0 (x.getLsbD 0) ||| flagBit 1 (x.getLsbD 1) = x := by
  revert x
  decide

/-- The flags of a RELAY record: the grace in bits 0 and 1, the loss action in bit 7, none between. -/
theorem relayFlags_bytes {x : Byte} (h : ∀ i ∈ [2, 3, 4, 5, 6], x.getLsbD i = false) :
    BitVec.ofNat 8 (graceOf (x.truncate 2)).val ||| flagBit 7 (lossOfBit (x.getLsbD 7)).bit = x := by
  revert x
  decide

theorem graceOf_byte {x : Byte} (h : x.toNat ≤ 3) : BitVec.ofNat 8 (graceOf (x.truncate 2)).val = x := by
  revert x
  decide

/-- A field of 0 or 1 that names one of two values by its lowest bit. -/
theorem lowBit_byte {x : Byte} (h : x.toNat ≤ 1) : flagBit 0 (x.getLsbD 0) = x := by
  revert x
  decide

theorem functionOfByte_code {x : Byte} (h : x.toNat ≤ 4) : (functionOfByte x).code = x := by
  revert x
  decide

theorem ofNat_byte {x : Byte} {n : Nat} (h : x.toNat < n) : BitVec.ofNat 8 (x.toNat % n) = x := by
  rw [Nat.mod_eq_of_lt h, BitVec.ofNat_toNat, BitVec.setWidth_eq]

/-- The alarm mask is three bytes, the most significant first. -/
theorem alarmMask_bytes (a b c : Byte) : (a ++ b ++ c).extractLsb' 16 8 = a ∧ (a ++ b ++ c).extractLsb' 8 8 = b ∧
    (a ++ b ++ c).extractLsb' 0 8 = c := by
  have hbits (i : Nat) : (a ++ b ++ c).getLsbD i =
      if i < 8 then c.getLsbD i else if i - 8 < 8 then b.getLsbD (i - 8) else a.getLsbD (i - 8 - 8) := by
    rw [BitVec.getLsbD_append, BitVec.getLsbD_append]
  refine ⟨?_, ?_, ?_⟩ <;> refine BitVec.eq_of_getElem_eq fun i hi => ?_ <;> rw [BitVec.getElem_extractLsb', hbits]
  · rw [if_neg (by omega), if_neg (by omega), show 16 + i - 8 - 8 = i by omega, BitVec.getLsbD_eq_getElem]
  · rw [if_neg (by omega), if_pos (by omega), show 8 + i - 8 = i by omega, BitVec.getLsbD_eq_getElem]
  · rw [if_pos (by omega), Nat.zero_add, BitVec.getLsbD_eq_getElem]

theorem sense_bit (b : Bool) : ((if b then Sense.intoOnDown else .intoOnUp) == .intoOnDown) = b := by cases b <;> rfl

theorem polarity_bit (b : Bool) : ((if b then Polarity.inverted else .normal) == .inverted) = b := by cases b <;> rfl

theorem HeadRec.parse_readBack : TableId.head.ReadBackBy HeadRec.parse HeadRec.bytes := by
  intro b r hl h
  have hflags : (byteAt b 3).toNat ≤ 7 := by simpa [TableId.outOfRange] using HeadRec.parse_refuses.inRange h 2
  have hgrace : (byteAt b 5).toNat ≤ 3 := by simpa [TableId.outOfRange] using HeadRec.parse_refuses.inRange h 4
  obtain ⟨-, rfl⟩ := readRecord_ok_iff.mp h
  rw [HeadRec.bytes, bytes16_halfAt, bytes16_halfAt, headFlags_bytes hflags, graceOf_byte hgrace]
  exact map_byteAt hl

theorem RelayRec.parse_readBack : TableId.relay.ReadBackBy RelayRec.parse RelayRec.bytes := by
  intro b r hl h
  have hflags (i : Nat) (hi : i ∈ [2, 3, 4, 5, 6]) : (byteAt b 3).getLsbD i = false := by
    rw [← Bool.not_eq_true]
    exact fun hbit => RelayRec.parse_refuses.inRange h 3 (.inr (.inr (.inr ⟨rfl, i, hi, hbit⟩)))
  obtain ⟨-, rfl⟩ := readRecord_ok_iff.mp h
  rw [RelayRec.bytes, relayFlags_bytes hflags]
  exact map_byteAt hl

theorem SectionRec.parse_readBack : TableId.sec.ReadBackBy SectionRec.parse SectionRec.bytes := by
  intro b r hl h
  have hflags : (byteAt b 0).toNat ≤ 3 := by simpa [TableId.outOfRange] using SectionRec.parse_refuses.inRange h 0
  obtain ⟨-, rfl⟩ := readRecord_ok_iff.mp h
  rw [SectionRec.bytes, bytes16_halfAt, twoFlags_bytes hflags]
  exact map_byteAt hl

theorem FilterRec.parse_readBack : TableId.filter.ReadBackBy FilterRec.parse FilterRec.bytes := by
  intro b r hl h
  have hflags : (byteAt b 2).toNat ≤ 3 := by simpa [TableId.outOfRange] using FilterRec.parse_refuses.inRange h 2
  obtain ⟨-, rfl⟩ := readRecord_ok_iff.mp h
  rw [FilterRec.bytes, twoFlags_bytes hflags]
  exact map_byteAt hl

theorem LineRec.parse_readBack : TableId.line.ReadBackBy LineRec.parse LineRec.bytes := by
  intro b r hl h
  have hfunction : (byteAt b 0).toNat ≤ 4 := by simpa [TableId.outOfRange] using LineRec.parse_refuses.inRange h 0
  have hsec : (byteAt b 1).toNat ≤ 23 := by simpa [TableId.outOfRange] using LineRec.parse_refuses.inRange h 1
  have hpolarity : (byteAt b 2).toNat ≤ 1 := by simpa [TableId.outOfRange] using LineRec.parse_refuses.inRange h 2
  obtain ⟨-, rfl⟩ := readRecord_ok_iff.mp h
  rw [LineRec.bytes, functionOfByte_code hfunction, polarity_bit, lowBit_byte hpolarity, Fin.val_ofNat,
    ofNat_byte (Nat.lt_succ_of_le hsec)]
  exact map_byteAt hl

theorem sectionOfByte_some {x : Byte} {k : Fin 24} (h : x.toNat = k.val) : sectionOfByte x = some k := by
  have hlt : x.toNat < 24 := h ▸ k.isLt
  rw [sectionOfByte, dif_pos hlt]
  exact congrArg some (Fin.ext h)

theorem sectionOfByte_none {x : Byte} (h : 23 < x.toNat) : sectionOfByte x = none := dif_neg (by omega)

/-- The section field is read back: 255 for none. -/
theorem BoundaryRec.bytes_sectionOfByte {x : Byte} (h : ¬(23 < x.toNat ∧ x.toNat ≠ 255)) (n : Fin 40) (sense : Sense) :
    BoundaryRec.bytes ⟨sectionOfByte x, n, sense⟩ = [x, BitVec.ofNat 8 n.val, flagBit 0 (sense == .intoOnDown)] := by
  by_cases hx : 23 < x.toNat
  · have h255 : x = 255 := BitVec.toNat_inj.mp (by by_contra hne; exact h ⟨hx, hne⟩)
    rw [sectionOfByte_none hx, h255]
    rfl
  · have hbyte : BitVec.ofNat 8 x.toNat = x := by rw [BitVec.ofNat_toNat, BitVec.setWidth_eq]
    rw [sectionOfByte_some (k := ⟨x.toNat, by omega⟩) rfl]
    exact congrArg (· :: _) hbyte

theorem BoundaryRec.parse_readBack : TableId.boundary.ReadBackBy BoundaryRec.parse BoundaryRec.bytes := by
  intro b r hl h
  have hsec : ¬(23 < (byteAt b 0).toNat ∧ (byteAt b 0).toNat ≠ 255) := by
    simpa [TableId.outOfRange] using BoundaryRec.parse_refuses.inRange h 0
  have hsource : (byteAt b 1).toNat ≤ 39 := by simpa [TableId.outOfRange] using BoundaryRec.parse_refuses.inRange h 1
  have hsense : (byteAt b 2).toNat ≤ 1 := by simpa [TableId.outOfRange] using BoundaryRec.parse_refuses.inRange h 2
  obtain ⟨-, rfl⟩ := readRecord_ok_iff.mp h
  rw [BoundaryRec.bytes_sectionOfByte hsec, sense_bit, lowBit_byte hsense, Fin.val_ofNat,
    ofNat_byte (Nat.lt_succ_of_le hsource)]
  exact map_byteAt hl

/-- A PART record reads back but for its spare byte, which reads as 0 (1.4). -/
theorem PartRec.parse_readBack {b : List Byte} {r : PartRec} (hl : b.length = 12) (h : PartRec.parse b = .ok r) :
    r.bytes = b.take 11 ++ [0] := by
  have htake : (List.range 11).map (byteAt b) = b.take 11 := map_byteAt_take (by omega)
  obtain ⟨-, rfl⟩ := readRecord_ok_iff.mp h
  obtain ⟨h16, h8, h0⟩ := alarmMask_bytes (byteAt b 8) (byteAt b 9) (byteAt b 10)
  rw [PartRec.bytes, h16, h8, h0, ← htake]
  rfl

/-! ## The records of a WRITE, one after the other (R167, R168) -/

/-- The bytes of record `i` of a WRITE. -/
def recordAt (size : Nat) (bs : List Byte) (i : Nat) : List Byte := (bs.drop (i * size)).take size

section
variable {α : Type} {size : Nat} {parse : List Byte → Except Nat α}

theorem recordAt_zero (bs : List Byte) : recordAt size bs 0 = bs.take size := by
  rw [recordAt, Nat.zero_mul, List.drop_zero]

theorem recordAt_drop (bs : List Byte) (i : Nat) : recordAt size (bs.drop size) i = recordAt size bs (i + 1) := by
  rw [recordAt, recordAt, List.drop_drop, Nat.succ_mul, Nat.add_comm size]

theorem parseRecords_refused {bs : List Byte} {f : Nat} (h : parse (bs.take size) = .error f) (k count : Nat) :
    parseRecords size parse k (count + 1) bs = .error (k, f) := by
  rw [parseRecords, h]

theorem parseRecords_accepted {bs : List Byte} {r : α} (h : parse (bs.take size) = .ok r) (k count : Nat) :
    parseRecords size parse k (count + 1) bs = (parseRecords size parse (k + 1) count (bs.drop size)).map (r :: ·) := by
  rw [parseRecords, h]
  cases parseRecords size parse (k + 1) count (bs.drop size) <;> rfl

theorem Except.map_eq_error_iff {ε β γ : Type} {x : Except ε β} {g : β → γ} {e : ε} : x.map g = .error e ↔ x = .error e := by
  cases x <;> simp [Except.map]

/-- The lowest record refused is named, with its field; every record below it is accepted (R168). -/
theorem parseRecords_error_iff (count k : Nat) (bs : List Byte) (n f : Nat) :
    parseRecords size parse k count bs = .error (n, f) ↔
      ∃ i < count, n = k + i ∧ parse (recordAt size bs i) = .error f ∧ ∀ j < i, ∃ r, parse (recordAt size bs j) = .ok r := by
  induction count generalizing k bs with
  | zero => exact iff_of_false nofun fun ⟨_, hi, _⟩ => absurd hi (Nat.not_lt_zero _)
  | succ count ih =>
    rw [Nat.exists_lt_succ_left]
    simp only [Nat.forall_lt_succ_left, ← recordAt_drop, recordAt_zero]
    cases hp : parse (bs.take size) with
    | error e => simp [parseRecords_refused hp, eq_comm]
    | ok r => simp [parseRecords_accepted hp, Except.map_eq_error_iff, ih, Nat.add_assoc, Nat.add_comm 1]

/-- A WRITE that is taken spells as many records as it says, each from its own bytes. -/
theorem parseRecords_ok {count k : Nat} {bs : List Byte} {rs : List α} (h : parseRecords size parse k count bs = .ok rs) :
    rs.length = count ∧ ∀ i (hi : i < rs.length), parse (recordAt size bs i) = .ok rs[i] := by
  induction count generalizing k bs rs with
  | zero =>
    cases h
    exact ⟨rfl, nofun⟩
  | succ count ih =>
    cases hp : parse (bs.take size) with
    | error e =>
      rw [parseRecords_refused hp] at h
      cases h
    | ok r =>
      rw [parseRecords_accepted hp] at h
      obtain ⟨rest, hrest, rfl⟩ := Except.map_ok h
      obtain ⟨hlength, hrecords⟩ := ih hrest
      refine ⟨congrArg (· + 1) hlength, fun i hi => ?_⟩
      cases i with
      | zero => rwa [recordAt_zero]
      | succ i => rw [← recordAt_drop]; exact hrecords i _

/-- Records that each read back as their own bytes read back as the bytes of the WRITE. -/
theorem parseRecords_readBack {bytes : α → List Byte} (hback : ∀ b r, b.length = size → parse b = .ok r → bytes r = b)
    {count k : Nat} {bs : List Byte} {rs : List α} (hl : bs.length = count * size)
    (h : parseRecords size parse k count bs = .ok rs) : rs.flatMap bytes = bs := by
  induction count generalizing k bs rs with
  | zero =>
    cases h
    rw [List.eq_nil_of_length_eq_zero (hl.trans (Nat.zero_mul _))]
    rfl
  | succ count ih =>
    rw [Nat.succ_mul] at hl
    cases hp : parse (bs.take size) with
    | error e =>
      rw [parseRecords_refused hp] at h
      cases h
    | ok r =>
      rw [parseRecords_accepted hp] at h
      obtain ⟨rest, hrest, rfl⟩ := Except.map_ok h
      rw [List.flatMap_cons, hback _ r (by simp [hl]) hp, ih (by simp [hl]) hrest, List.take_append_drop]

/-- What the ranges of a table make of a WRITE to it: the lowest record out of range and its lowest field (R168). -/
theorem TableId.RefusedBy.write_error_iff {id : TableId} {β : Type} (h : id.RefusedBy parse) (g : List α → β) (count : Nat)
    (bs : List Byte) (i f : Nat) : (parseRecords size parse 0 count bs).map g = .error (i, f) ↔
      i < count ∧ id.outOfRange (recordAt size bs i) f ∧ (∀ g, g < f → ¬id.outOfRange (recordAt size bs i) g) ∧
        ∀ j, j < i → ∀ g, ¬id.outOfRange (recordAt size bs j) g := by
  rw [Except.map_eq_error_iff, parseRecords_error_iff]
  simp only [Nat.zero_add, h _ f, h.accepts_iff]
  constructor
  · rintro ⟨_, hi, rfl, ⟨hbad, hlowest⟩, hbelow⟩
    exact ⟨hi, hbad, hlowest, hbelow⟩
  · rintro ⟨hi, hbad, hlowest, hbelow⟩
    exact ⟨i, hi, rfl, ⟨hbad, hlowest⟩, hbelow⟩

end

/-! ## The records replaced, and the bytes a READ returns (R167, R169) -/

section
variable {α : Type} {n : Nat} {v : Vector α n} {first : Nat} {rs : List α}

theorem replaceFrom_written {k : Fin n} {i : Nat} (hi : i < rs.length) (hk : k.val = first + i) :
    (replaceFrom v first rs)[k] = rs[i] := by
  have hread : (replaceFrom v first rs)[k] = if first ≤ k.val then rs.getD (k.val - first) v[k] else v[k] := tab_get ..
  rw [hread, if_pos (by omega), show k.val - first = i by omega]
  exact List.getD_eq_getElem _ _ hi

theorem replaceFrom_kept {k : Fin n} (hk : k.val < first ∨ first + rs.length ≤ k.val) : (replaceFrom v first rs)[k] = v[k] := by
  have hread : (replaceFrom v first rs)[k] = if first ≤ k.val then rs.getD (k.val - first) v[k] else v[k] := tab_get ..
  rw [hread]
  split
  · exact List.getD_eq_default _ _ (by omega)
  · rfl

theorem recordBytes_written (bytes : α → List Byte) (h : first + rs.length ≤ n) :
    recordBytes (replaceFrom v first rs) bytes first rs.length = rs.flatMap bytes := by
  refine congrArg (List.flatMap bytes) (List.ext_getElem (by simp; omega) fun i _ hi => ?_)
  rw [List.getElem_take, List.getElem_drop, Vector.getElem_toList]
  exact replaceFrom_written (k := ⟨first + i, by omega⟩) hi rfl

theorem recordBytes_kept (bytes : α → List Byte) {i c : Nat} (h : i + c ≤ first ∨ first + rs.length ≤ i) :
    recordBytes (replaceFrom v first rs) bytes i c = recordBytes v bytes i c := by
  refine congrArg (List.flatMap bytes) (List.ext_getElem (by simp) fun j hj _ => ?_)
  have hin : j < c ∧ i + j < n := by
    simp only [List.length_take, List.length_drop, Vector.length_toList] at hj
    omega
  rw [List.getElem_take, List.getElem_drop, Vector.getElem_toList, List.getElem_take, List.getElem_drop, Vector.getElem_toList]
  exact replaceFrom_kept (k := ⟨i + j, hin.2⟩) (show i + j < first ∨ first + rs.length ≤ i + j by omega)

variable {size count : Nat} {parse : List Byte → Except Nat α} {bs : List Byte}

/-- The records read from a WRITE's bytes stand in its place, each where its index puts it. -/
theorem replaceFrom_parsed (h : parseRecords size parse 0 count bs = .ok rs) {i : Nat} (hi : i < count) {k : Fin n}
    (hk : k.val = first + i) : parse (recordAt size bs i) = .ok (replaceFrom v first rs)[k] := by
  obtain ⟨rfl, hrecords⟩ := parseRecords_ok h
  rw [replaceFrom_written hi hk]
  exact hrecords i hi

/-- A table after a WRITE reads as the bytes written where they were written, and elsewhere as before. -/
theorem replaceFrom_reads {id : TableId} {bytes : α → List Byte} (hback : id.ReadBackBy parse bytes)
    (h : parseRecords id.size parse 0 count bs = .ok rs) (hl : bs.length = count * id.size) (hfits : first + count ≤ n) :
    recordBytes (replaceFrom v first rs) bytes first count = bs ∧
      ∀ i c, i + c ≤ first ∨ first + count ≤ i →
        recordBytes (replaceFrom v first rs) bytes i c = recordBytes v bytes i c := by
  obtain ⟨rfl, -⟩ := parseRecords_ok h
  exact ⟨(recordBytes_written bytes hfits).trans (parseRecords_readBack hback hl h),
    fun i c hout => recordBytes_kept bytes hout⟩

end

/-! ## A WRITE to a table (R167, R168) -/

section
variable {t t' : Tables} {id : TableId} {first count : Nat} {bs : List Byte}

theorem Tables.write_error_iff (t : Tables) (id : TableId) (first count : Nat) (bs : List Byte) (i f : Nat) :
    t.write id first count bs = .error (i, f) ↔
      i < count ∧ id.outOfRange (recordAt id.size bs i) f ∧ (∀ g, g < f → ¬id.outOfRange (recordAt id.size bs i) g) ∧
        ∀ j, j < i → ∀ g, ¬id.outOfRange (recordAt id.size bs j) g := by
  cases id with
  | part => exact PartRec.parse_refuses.write_error_iff _ count bs i f
  | head => exact HeadRec.parse_refuses.write_error_iff _ count bs i f
  | relay => exact RelayRec.parse_refuses.write_error_iff _ count bs i f
  | sec => exact SectionRec.parse_refuses.write_error_iff _ count bs i f
  | boundary => exact BoundaryRec.parse_refuses.write_error_iff _ count bs i f
  | filter => exact FilterRec.parse_refuses.write_error_iff _ count bs i f
  | line => exact LineRec.parse_refuses.write_error_iff _ count bs i f

/-- A WRITE to PART, which has one entry, spells its one record. -/
theorem Tables.write_part (hcount : 0 < count) (hfits : first + count ≤ 1) (h : t.write .part first count bs = .ok t') :
    PartRec.parse (recordAt 12 bs 0) = .ok t'.part := by
  obtain rfl : count = 1 := by omega
  obtain ⟨rs, hrs, rfl⟩ := Except.map_ok h
  obtain ⟨hlength, hrecords⟩ := parseRecords_ok hrs
  rw [hrecords 0 (by omega)]
  exact congrArg _ (List.getD_eq_getElem _ _ _).symm

/-- The records of every other table read back byte for byte, and no other record of the table changes. -/
theorem Tables.write_reads (hid : id ≠ .part) (hl : bs.length = count * id.size) (hfits : first + count ≤ id.entries)
    (h : t.write id first count bs = .ok t') : t'.read id first count = bs ∧
      ∀ i c, i + c ≤ first ∨ first + count ≤ i → t'.read id i c = t.read id i c := by
  cases id with
  | part => exact absurd rfl hid
  | head =>
    obtain ⟨rs, hrs, rfl⟩ := Except.map_ok h
    exact replaceFrom_reads HeadRec.parse_readBack hrs hl hfits
  | relay =>
    obtain ⟨rs, hrs, rfl⟩ := Except.map_ok h
    exact replaceFrom_reads RelayRec.parse_readBack hrs hl hfits
  | sec =>
    obtain ⟨rs, hrs, rfl⟩ := Except.map_ok h
    exact replaceFrom_reads SectionRec.parse_readBack hrs hl hfits
  | boundary =>
    obtain ⟨rs, hrs, rfl⟩ := Except.map_ok h
    exact replaceFrom_reads BoundaryRec.parse_readBack hrs hl hfits
  | filter =>
    obtain ⟨rs, hrs, rfl⟩ := Except.map_ok h
    exact replaceFrom_reads FilterRec.parse_readBack hrs hl hfits
  | line =>
    obtain ⟨rs, hrs, rfl⟩ := Except.map_ok h
    exact replaceFrom_reads LineRec.parse_readBack hrs hl hfits

/-- A WRITE to one table moves no other: past the table written itself, no read reaches the records replaced. -/
theorem Tables.write_others (h : t.write id first count bs = .ok t') {id' : TableId} (hne : id' ≠ id) (i c : Nat) :
    t'.read id' i c = t.read id' i c := by
  cases id <;> cases id' <;> try contradiction
  all_goals
    obtain ⟨rs, -, rfl⟩ := Except.map_ok h
    simp only [Tables.read]

end

/-- Settles O54: the records replaced read back as their own bytes, and the table's read spells the rest as before. -/
theorem writtenRecordsReadBack : Obligations.WrittenRecordsReadBack := by
  unfold Obligations.WrittenRecordsReadBack
  intro t t' id first count bs hcount hl hfits h
  refine ⟨?_, fun hid => (Tables.write_reads hid hl hfits h).2, fun id' hne => Tables.write_others h hne⟩
  by_cases hid : id = .part
  · subst hid
    obtain rfl : count = 1 := by change first + count ≤ 1 at hfits; omega
    have hparse := Tables.write_part hcount hfits h
    have hall : recordAt 12 bs 0 = bs := (recordAt_zero bs).trans (List.take_of_length_le hl.le)
    rw [hall] at hparse
    rw [if_pos rfl]
    exact PartRec.parse_readBack hl hparse
  · rw [if_neg hid]
    exact (Tables.write_reads hid hl hfits h).1

/-! ## What a WRITE stores (1.4) -/

/-- A field of 0 or 1 is read by its lowest bit. -/
theorem lowBit_iff {x : Byte} (h : x.toNat ≤ 1) : x.getLsbD 0 = true ↔ x = 1 := by
  revert x
  decide

theorem BoundaryRec.parse_spells {b : List Byte} {r : BoundaryRec} (h : BoundaryRec.parse b = .ok r) :
    (byteAt b 0 = 255 → r.sec = none) ∧ (∀ k : Fin 24, (byteAt b 0).toNat = k.val → r.sec = some k) ∧
      r.source.val = (byteAt b 1).toNat ∧ r.sense = (if byteAt b 2 = 1 then .intoOnDown else .intoOnUp) := by
  have hsource : (byteAt b 1).toNat ≤ 39 := by simpa [TableId.outOfRange] using BoundaryRec.parse_refuses.inRange h 1
  have hsense : (byteAt b 2).toNat ≤ 1 := by simpa [TableId.outOfRange] using BoundaryRec.parse_refuses.inRange h 2
  obtain ⟨-, rfl⟩ := readRecord_ok_iff.mp h
  refine ⟨fun h255 => sectionOfByte_none (by rw [h255]; decide), fun k hk => sectionOfByte_some hk,
    Nat.mod_eq_of_lt (Nat.lt_succ_of_le hsource), ?_⟩
  simp only [lowBit_iff hsense]

theorem LineRec.parse_spells {b : List Byte} {r : LineRec} (h : LineRec.parse b = .ok r) :
    r.function.code = byteAt b 0 ∧ r.sec.val = (byteAt b 1).toNat ∧
      r.polarity = (if byteAt b 2 = 1 then .inverted else .normal) := by
  have hfunction : (byteAt b 0).toNat ≤ 4 := by simpa [TableId.outOfRange] using LineRec.parse_refuses.inRange h 0
  have hsec : (byteAt b 1).toNat ≤ 23 := by simpa [TableId.outOfRange] using LineRec.parse_refuses.inRange h 1
  have hpolarity : (byteAt b 2).toNat ≤ 1 := by simpa [TableId.outOfRange] using LineRec.parse_refuses.inRange h 2
  obtain ⟨-, rfl⟩ := readRecord_ok_iff.mp h
  refine ⟨functionOfByte_code hfunction, Nat.mod_eq_of_lt (Nat.lt_succ_of_le hsec), ?_⟩
  simp only [lowBit_iff hpolarity]

/-- Each record of a WRITE holds what its bytes spell (1.4). -/
theorem Tables.write_spells {t t' : Tables} {id : TableId} {first count : Nat} {bs : List Byte} (hcount : 0 < count)
    (hfits : first + count ≤ id.entries) (h : t.write id first count bs = .ok t') {i : Nat} (hi : i < count) :
    t'.spells id (first + i) (recordAt id.size bs i) := by
  cases id with
  | part =>
    have hfits : first + count ≤ 1 := hfits
    obtain rfl : i = 0 := by omega
    exact (readRecord_ok_iff.mp (Tables.write_part hcount hfits h)).2.symm
  | head | relay | sec | filter =>
    obtain ⟨rs, hrs, rfl⟩ := Except.map_ok h
    exact fun k hk => (readRecord_ok_iff.mp (replaceFrom_parsed hrs hi hk)).2.symm
  | boundary =>
    obtain ⟨rs, hrs, rfl⟩ := Except.map_ok h
    exact fun e he => BoundaryRec.parse_spells (replaceFrom_parsed hrs hi he)
  | line =>
    obtain ⟨rs, hrs, rfl⟩ := Except.map_ok h
    exact fun l hl => LineRec.parse_spells (replaceFrom_parsed hrs hi hl)

/-- Settles O60: the ranges judge a WRITE record by record, and an accepted record holds what its bytes spell. -/
theorem writtenFieldsAreChecked : Obligations.WrittenFieldsAreChecked := by
  unfold Obligations.WrittenFieldsAreChecked
  intro t id first count bs hcount hl hfits record
  exact ⟨Tables.write_error_iff t id first count bs, fun t' h i hi => Tables.write_spells hcount hfits h hi⟩

end Sys2Proof.Machine
end

section
/-! SUPPORT. WRITE (R167): its checks in order, and the local lines after it (R177 to R179). -/

namespace Sys2Proof.Machine

/-! ## The checks of R167 -/

section
variable {s : State} {p : List Byte} {id : TableId}

theorem State.judgeWrite_run (p : List Byte) (hm : s.mode = .run) : s.judgeWrite p = .error ⟨.wrongMode, []⟩ := if_pos hm

theorem State.judgeWrite_unknown (hm : s.mode = .config) (hid : TableId.ofByte (byteAt p 0) = none) :
    s.judgeWrite p = .error ⟨.range, []⟩ := by
  rw [State.judgeWrite, hm, if_neg (by decide), hid]

theorem State.judgeWrite_badLength (hm : s.mode = .config) (hid : TableId.ofByte (byteAt p 0) = some id)
    (hlong : (p.drop 3).length ≠ ((byteAt p 2).toNat + 1) * id.size) : s.judgeWrite p = .error ⟨.badLength, []⟩ := by
  rw [State.judgeWrite, hm, if_neg (by decide), hid]
  exact if_pos hlong

theorem State.judgeWrite_range (hm : s.mode = .config) (hid : TableId.ofByte (byteAt p 0) = some id)
    (hlength : (p.drop 3).length = ((byteAt p 2).toNat + 1) * id.size)
    (hout : id.entries < (byteAt p 1).toNat + ((byteAt p 2).toNat + 1)) : s.judgeWrite p = .error ⟨.range, []⟩ := by
  rw [State.judgeWrite, hm, if_neg (by decide), hid]
  exact (if_neg (not_not.mpr hlength)).trans (if_pos hout)

theorem State.judgeWrite_badValue (hm : s.mode = .config) (hid : TableId.ofByte (byteAt p 0) = some id)
    (hlength : (p.drop 3).length = ((byteAt p 2).toNat + 1) * id.size)
    (hfits : (byteAt p 1).toNat + ((byteAt p 2).toNat + 1) ≤ id.entries) {i f : Nat}
    (h : s.tables.write id (byteAt p 1).toNat ((byteAt p 2).toNat + 1) (p.drop 3) = .error (i, f)) :
    s.judgeWrite p = .error ⟨.badValue, [BitVec.ofNat 8 i, BitVec.ofNat 8 f]⟩ := by
  rw [State.judgeWrite, hm, if_neg (by decide), hid]
  refine (if_neg (not_not.mpr hlength)).trans ((if_neg (not_lt.mpr hfits)).trans ?_)
  rw [h]

theorem State.judgeWrite_taken (hm : s.mode = .config) (hid : TableId.ofByte (byteAt p 0) = some id)
    (hlength : (p.drop 3).length = ((byteAt p 2).toNat + 1) * id.size)
    (hfits : (byteAt p 1).toNat + ((byteAt p 2).toNat + 1) ≤ id.entries) {t : Tables}
    (h : s.tables.write id (byteAt p 1).toNat ((byteAt p 2).toNat + 1) (p.drop 3) = .ok t) :
    s.judgeWrite p = .ok (id, t) := by
  rw [State.judgeWrite, hm, if_neg (by decide), hid]
  refine (if_neg (not_not.mpr hlength)).trans ((if_neg (not_lt.mpr hfits)).trans ?_)
  rw [h]

theorem State.doWrite_refused {r : Reply} (h : s.judgeWrite p = .error r) : s.doWrite p = (s, r) := by
  rw [State.doWrite, h]

theorem State.doWrite_taken {t : Tables} (h : s.judgeWrite p = .ok (id, t)) :
    s.doWrite p = ((s.setTables t).linesAfterWrite id p, ⟨.ok, []⟩) := by
  rw [State.doWrite, h]
  rfl

end

/-! ## The local lines after a WRITE -/

section
variable {s : State} {l : Fin 8}

theorem State.sensed_restoreIn_congr {v : State} (hf : s.tables.lines[l].function = .restoreIn) (ht : v.tables = s.tables)
    (hb : v.lines[l].board = s.lines[l].board) : v.sensed l = s.sensed l := by
  rw [Bool.eq_iff_iff, State.sensed_restoreIn hf, State.sensed_restoreIn (by rw [ht, hf]), ht, hb]

/-- A judged latch moves nothing else of its line, and a line that is no output keeps its latch. -/
theorem State.judgeLatches_keeps (s : State) (l : Fin 8) :
    s.judgeLatches.lines[l].board = s.lines[l].board ∧ s.judgeLatches.lines[l].timer = s.lines[l].timer ∧
      s.judgeLatches.lines[l].activation = s.lines[l].activation ∧
      (s.tables.lines[l].function ≠ .sectionOut → s.tables.lines[l].function ≠ .alarmOut →
        s.judgeLatches.lines[l].latch = s.lines[l].latch) := by
  rw [State.judgeLatches_line]
  refine ⟨?_, ?_, ?_, fun hsection halarm => ?_⟩
  · split <;> rfl
  · split <;> rfl
  · split <;> rfl
  · rw [LineFunction.output_eq_false hsection halarm, if_neg Bool.false_ne_true]

theorem State.dropWritten_line (s : State) (first count : Nat) (l : Fin 8) : (s.dropWritten first count).lines[l] =
    if first ≤ l.val ∧ l.val < first + count then s.dropped l else s.lines[l] := tab_get ..

/-- A WRITE moves the tables and the local lines alone. -/
theorem State.linesAfterWrite_frame (s : State) (tables : Tables) (id : TableId) (p : List Byte) :
    (s.setTables tables).linesAfterWrite id p =
      { s with tables := tables, lines := ((s.setTables tables).linesAfterWrite id p).lines } := by cases id <;> rfl

theorem State.linesAfterWrite_others (s : State) {id : TableId} (hline : id ≠ .line) (hpart : id ≠ .part) (p : List Byte) :
    s.linesAfterWrite id p = s := by
  cases id with
  | line => exact absurd rfl hline
  | part => exact absurd rfl hpart
  | head | relay | sec | boundary | filter => rfl

theorem State.linesAfterWrite_follow (s : State) {id : TableId} (h : id = .line ∨ id = .part) (p : List Byte) :
    (s.linesAfterWrite id p).LatchesFollow := by
  rcases h with rfl | rfl <;> exact State.judgeLatches_follow _

/-- A line after a WRITE: the latch of an output alone follows, and the activation of a line whose LINE record is
replaced is dropped (R178, R179). -/
theorem State.linesAfterWrite_line (s : State) (id : TableId) (p : List Byte) (l : Fin 8) :
    let t := s.linesAfterWrite id p
    let written := id = .line ∧ (byteAt p 1).toNat ≤ l.val ∧ l.val < (byteAt p 1).toNat + ((byteAt p 2).toNat + 1)
    t.lines[l].board = s.lines[l].board ∧
    (s.tables.lines[l].function ≠ .sectionOut → s.tables.lines[l].function ≠ .alarmOut →
      t.lines[l].latch = s.lines[l].latch) ∧
    (written → t.lines[l].timer = none ∧ t.lines[l].activation =
      (if s.tables.lines[l].function = .restoreIn ∧ t.sensed l = true then .spent else .idle)) ∧
    (¬written → t.lines[l].timer = s.lines[l].timer ∧ t.lines[l].activation = s.lines[l].activation) := by
  intro t written
  by_cases hline : id = .line
  · subst hline
    have hdrop := s.dropWritten_line (byteAt p 1).toNat ((byteAt p 2).toNat + 1) l
    obtain ⟨hboard, htimer, hactivation, hlatch⟩ :=
      (s.dropWritten (byteAt p 1).toNat ((byteAt p 2).toNat + 1)).judgeLatches_keeps l
    by_cases hw : (byteAt p 1).toNat ≤ l.val ∧ l.val < (byteAt p 1).toNat + ((byteAt p 2).toNat + 1)
    · rw [hdrop, if_pos hw] at hboard htimer hactivation hlatch
      refine ⟨hboard, hlatch, fun _ => ⟨htimer, hactivation.trans ?_⟩, fun hno => absurd ⟨rfl, hw⟩ hno⟩
      have hsensed (hf : s.tables.lines[l].function = .restoreIn) : t.sensed l = s.sensed l :=
        State.sensed_restoreIn_congr hf rfl hboard
      rw [State.dropped]
      by_cases hf : s.tables.lines[l].function = .restoreIn
      · rw [hsensed hf]
      · simp only [hf, false_and, if_false]
    · rw [hdrop, if_neg hw] at hboard htimer hactivation hlatch
      exact ⟨hboard, hlatch, fun h => absurd h.2 hw, fun _ => ⟨htimer, hactivation⟩⟩
  · have hkept : ¬written := fun h => hline h.1
    by_cases hpart : id = .part
    · subst hpart
      obtain ⟨hboard, htimer, hactivation, hlatch⟩ := s.judgeLatches_keeps l
      exact ⟨hboard, hlatch, fun h => absurd h hkept, fun _ => ⟨htimer, hactivation⟩⟩
    · have ht : t = s := s.linesAfterWrite_others hline hpart p
      rw [ht]
      exact ⟨rfl, fun _ _ => rfl, fun h => absurd h hkept, fun _ => ⟨rfl, rfl⟩⟩

end

/-- Settles O53: the checks one after the other, then the tables replaced and the lines that follow them. -/
theorem writesReplaceRecords : Obligations.WritesReplaceRecords := by
  unfold Obligations.WritesReplaceRecords
  intro s hdr tag table first less records hl hto hfrom params count refused
  have hparams : params.length ≤ 62 := Nat.add_le_add_right hl 3
  have hlength : RequestCode.write.lengthIs (params.length + 2) := Nat.le_add_left 5 records.length
  generalize hu : s.heard (requestOperand hdr .write tag params) = u
  have hmode : u.mode = s.mode := by rw [← hu, State.heard_mode]
  have htables : u.tables = s.tables := by rw [← hu, State.heard_tables]
  have hlines : u.lines = s.lines := by rw [← hu, State.heard_lines]
  have hrefused {r : Reply} (h : u.judgeWrite params = .error r) : refused r := by
    subst hu
    exact State.answersOnly_of_act hto hparams hlength hfrom rfl (State.doWrite_refused h)
  rw [← hmode, ← htables, ← hlines]
  refine ⟨fun hm => hrefused (State.judgeWrite_run params hm), fun hm hid => hrefused (State.judgeWrite_unknown hm hid),
    fun id hm hid => ⟨fun hlong => hrefused (State.judgeWrite_badLength (p := params) hm hid hlong),
      fun hok hout => hrefused (State.judgeWrite_range (p := params) hm hid hok hout), fun hok hfits =>
        ⟨fun i f h => hrefused (State.judgeWrite_badValue (p := params) hm hid hok hfits h), fun tables h => ?_⟩⟩⟩
  have hdo := State.doWrite_taken (State.judgeWrite_taken (p := params) hm hid hok hfits h)
  have hexec : exec (.write hdr tag params) s =
      .next (((u.setTables tables).linesAfterWrite id params).answered hdr 0x02 tag ⟨.ok, []⟩) := by
    subst hu
    exact State.request_answered hto hparams hlength hfrom rfl hdo
  refine ⟨_, hexec, u.linesAfterWrite_frame tables id params, fun hline hpart => ?_,
    fun h => State.linesAfterWrite_follow _ h params, State.linesAfterWrite_line _ id params⟩
  rw [State.linesAfterWrite_others _ hline hpart]
  rfl

end Sys2Proof.Machine
end

section
/-! SUPPORT. The output latches follow their conditions (R178): a latch reads the mode, the PART and LINE tables and the
states of the sections. A section's state changes in the one write that judges the latches, and each change of the
mode, of those tables or of all sections at once ends in the same judgement. -/

namespace Sys2Proof.Machine

theorem State.putSection_judges {s : State} {k : Fin 24} {r : SecRun} (h : s.sections[k].state ≠ r.state) :
    (s.putSection k r).LatchesFollow := by
  unfold State.putSection
  dsimp only
  rw [if_pos h]
  exact State.judgeLatches_follow _

/-- With no output among the lines there is no latch to follow. -/
theorem State.latchesFollow_of_off {s : State} (h : ∀ l : Fin 8, s.tables.lines[l].function = .off) : s.LatchesFollow :=
  fun l => by
    rw [h l]
    exact ⟨nofun, nofun⟩

/-- A change of the level sensed moves the activation, never the latch (R179). -/
theorem LineRun.levelChanged_latch (x : LineRun) (active : Bool) (t : Timer) : (x.levelChanged active t).latch = x.latch := by
  unfold LineRun.levelChanged
  split <;> rfl

/-- A line whose record takes new contents with its latch as it was. -/
theorem State.setLine_latch {s : State} {l : Fin 8} {x : LineRun} (h : x.latch = s.lines[l].latch) (m : Fin 8) :
    (s.setLine l x).lines[m].latch = s.lines[m].latch := by
  rw [State.setLine_lines, upd_get]
  split
  · next hlm => rw [h, hlm]
  · rfl

/-- A WRITE that is taken leaves the tables it does not name. -/
theorem Tables.write_keeps {t t' : Tables} {id : TableId} {first count : Nat} {bs : List Byte}
    (h : t.write id first count bs = .ok t') (hline : id ≠ .line) (hpart : id ≠ .part) :
    t'.lines = t.lines ∧ t'.part = t.part := by
  cases id with
  | line => exact absurd rfl hline
  | part => exact absurd rfl hpart
  | head | relay | sec | boundary | filter =>
    obtain ⟨rs, -, rfl⟩ := Except.map_ok h
    exact ⟨rfl, rfl⟩

theorem State.judgeWrite_keeps {s : State} {p : List Byte} {id : TableId} {t : Tables} (h : s.judgeWrite p = .ok (id, t))
    (hline : id ≠ .line) (hpart : id ≠ .part) : t.lines = s.tables.lines ∧ t.part = s.tables.part := by
  unfold State.judgeWrite at h
  dsimp only at h
  split_ifs at h
  split at h
  · cases h
  split_ifs at h
  split at h
  · cases h
  · next hwrite =>
    cases h
    exact Tables.write_keeps hwrite hline hpart

namespace State.LatchesFollow

variable {s t : State} (h : s.LatchesFollow)
include h

/-- What the latches read, and the latches, are left as they are. -/
theorem of_alike (hmode : t.mode = s.mode) (hlines : t.tables.lines = s.tables.lines) (hpart : t.tables.part = s.tables.part)
    (hstates : ∀ k : Fin 24, t.sections[k].state = s.sections[k].state)
    (hlatches : ∀ l : Fin 8, t.lines[l].latch = s.lines[l].latch) : t.LatchesFollow := fun l => by
  simp only [hmode, hlines, hpart, hstates, hlatches]
  exact h l

theorem setLine {l : Fin 8} {x : LineRun} (hx : x.latch = s.lines[l].latch) : (s.setLine l x).LatchesFollow :=
  h.of_alike rfl rfl rfl (fun _ => rfl) (State.setLine_latch hx)

/-- A write that changes the section's state judges the latches; any other moves nothing they read (R178). -/
theorem putSection (k : Fin 24) (r : SecRun) : (s.putSection k r).LatchesFollow := by
  by_cases hst : s.sections[k].state = r.state
  · have hlines : (s.putSection k r).lines = s.lines := by
      rw [State.putSection_lines, if_neg (not_not.mpr hst)]
    refine h.of_alike (State.putSection_mode ..) (by rw [State.putSection_tables]) (by rw [State.putSection_tables])
      (fun j => ?_) (fun l => by rw [hlines])
    rw [State.putSection_get]
    split
    · next hkj => rw [← hkj, hst]
    · rfl
  · exact State.putSection_judges hst

/-! ### Passages, activity and source events (R67, R68, R84, R101) -/

theorem passageAt (n : Fin 40) (k : Fin 24) (inward : Bool) : (s.passageAt n k inward).LatchesFollow := by
  unfold State.passageAt
  dsimp only
  split
  · split <;> exact h.putSection k _
  · exact h.putSection k _

theorem passage (n : Fin 40) (d : Direction) : (s.passage n d).LatchesFollow :=
  foldl_preserves State.LatchesFollow _ _ (fun _ b _ ht => ht.passageAt n b.1 _) s h

theorem activity (n : Fin 40) : (s.activity n).LatchesFollow :=
  foldl_preserves State.LatchesFollow _ _ (fun _ b _ ht => ht.putSection b.1 _) s h

theorem deliver (n : Fin 40) (e : SourceEvent) : (s.deliver n e).LatchesFollow :=
  State.deliver_preserves (fun u k hu => by
    rw [State.sourceEventAt_eq]
    exact (hu.putSection k _).putSection k _) s h

theorem deliverOpt (n : Fin 40) (e : Option SourceEvent) : (s.deliverOpt n e).LatchesFollow := by
  cases e with
  | none => exact h
  | some e => exact h.deliver n e

/-! ### Heads and channels -/

theorem noteStatus (k : Fin 32) (b : OriginStatus) : (s.noteStatus k b).LatchesFollow := by
  unfold State.noteStatus
  split <;> exact h

theorem commitHead (k : Fin 32) (r : HeadRun) : (s.commitHead k r).LatchesFollow := by
  have hrecord : (s.setHead k r).LatchesFollow := h
  have hnoted := hrecord.noteStatus k (s.statusOf k)
  unfold State.commitHead
  dsimp only
  split
  · exact (hnoted.deliver _ _).deliverOpt _ _
  · exact hnoted.deliverOpt _ _

theorem deliverPassage (p : Option PassageRecord) : (s.deliverPassage p).LatchesFollow := by
  cases p with
  | none => exact h
  | some p =>
    have hpassage := h.passage (headSource p.source) p.dir
    rw [State.deliverPassage_some]
    unfold State.relayPassage
    split
    · exact noteStatus (s := State.setRelayOut _ _ _) hpassage _ _
    · exact hpassage

theorem edges (k : Fin 32) (a : Anchor) (before : Option (Time × Half)) (es : List EdgeOperand) :
    (s.edges k a before es).LatchesFollow := by
  induction es generalizing s before with
  | nil => exact h
  | cons e es ih =>
    have hactivity := h.activity (headSource k)
    unfold State.edges
    dsimp only
    split
    · exact hactivity.commitHead k _
    · exact ih (deliverPassage (s := State.setHead _ k _) hactivity _) _

theorem wheelAccepted (k : Fin 32) (q flags : Byte) (es : List EdgeOperand) : (s.wheelAccepted k q flags es).LatchesFollow := by
  unfold State.wheelAccepted
  dsimp only
  split
  · exact h.commitHead k _
  · split
    · exact h.commitHead k _
    · split
      · exact h.commitHead k _
      · exact (h.commitHead k _).edges k _ _ es

theorem wheelFrame (k : Fin 32) (q flags : Byte) (es : List EdgeOperand) : (s.wheelFrame k q flags es).LatchesFollow := by
  by_cases hk : s.heads[k].state.chained
  · cases hj : judgeSeq s.heads[k].expected q with
    | repeated =>
      rw [State.wheelFrame_repeated hk hj]
      exact h.commitHead k _
    | gap =>
      rw [State.wheelFrame_gap hk hj]
      exact h.commitHead k _
    | next =>
      rw [State.wheelFrame_sequence hk hj]
      exact h.wheelAccepted k q flags es
  · rw [State.wheelFrame_deaf hk]
    exact h

theorem headExpiry (k : Fin 32) : (s.headExpiry k).LatchesFollow := by
  by_cases hk : s.heads[k].state.chained ∧ s.heads[k].timer.due s.partTime = true
  · rw [State.headExpiry_due hk.1 hk.2]
    exact h.commitHead k _
  · rw [State.headExpiry_idle hk]
    exact h

theorem testHead (k : Fin 32) : (s.testHead k).LatchesFollow := by
  by_cases hk : s.heads[k].state.testable
  · rw [State.testHead_commits hk]
    exact h.commitHead k _
  · rw [State.testHead_kept hk]
    exact h

theorem testHeads (f : Frame) : (s.testHeads f).LatchesFollow := by
  unfold State.testHeads
  split
  · exact foldl_preserves State.LatchesFollow _ _ (fun _ k _ ht => ht.testHead k) s h
  · exact h

theorem commitChannel (c : Fin 8) (r : Channel) : (s.commitChannel c r).LatchesFollow :=
  deliverOpt (s := s.setChannel c r) h _ _

theorem channelFrame (c : Fin 8) (q : Byte) (st : OriginStatus) (ps : List PassageOperand) :
    (s.channelFrame c q st ps).LatchesFollow := by
  unfold State.channelFrame
  dsimp only
  split
  · exact foldl_preserves State.LatchesFollow _ _ (fun _ _ _ ht => ht.passage _ _) _ (h.commitChannel c _)
  · exact h.commitChannel c _

theorem channelExpiry (c : Fin 8) : (s.channelExpiry c).LatchesFollow := by
  by_cases hc : s.channels[c].state.chained ∧ s.channels[c].timer.due s.partTime = true
  · rw [State.channelExpiry_due hc.1 hc.2]
    exact h.commitChannel c _
  · rw [State.channelExpiry_idle hc]
    exact h

theorem readmitBroken (n : Fin 40) : (s.readmitBroken n).LatchesFollow := by
  rcases source_cases n with ⟨k, rfl⟩ | ⟨c, rfl⟩
  · by_cases hb : s.heads[k].state.broken
    · rw [State.readmitBroken_head hb, State.readmitHead_eq hb]
      refine deliver ?_ _ _
      exact h
    · rw [State.readmitBroken_kept (by rwa [State.sourceState_head])]
      exact h
  · by_cases hb : s.channels[c].state.broken
    · rw [State.readmitBroken_channel hb]
      refine deliver ?_ _ _
      exact h
    · rw [State.readmitBroken_kept (by rwa [State.sourceState_channel])]
      exact h

/-! ### Restores (R110 to R117) -/

theorem judgeRestore (k : Fin 24) : (s.judgeRestore k).LatchesFollow := by
  unfold State.judgeRestore
  split
  · exact h.putSection k _
  · exact h

theorem acceptRestore (kind : RestoreKind) (k : Fin 24) : (s.acceptRestore kind k).LatchesFollow := by
  have hwaiting : ((s.putSection k (s.sections[k].acceptRestore kind)).setRestoreTimer k (s.restoreTimer k)).LatchesFollow :=
    h.putSection k _
  have hreadmitted := foldl_preserves State.LatchesFollow State.readmitBroken (s.tables.boundarySources k)
    (fun _ n _ ht => ht.readmitBroken n) _ hwaiting
  exact hreadmitted.judgeRestore k

theorem localRestore (k : Fin 24) : (s.localRestore k).LatchesFollow := by
  unfold State.localRestore
  split
  · exact h
  · exact h.acceptRestore .sweep _

theorem restoreExpiry (k : Fin 24) : (s.restoreExpiry k).LatchesFollow := by
  unfold State.restoreExpiry
  split
  · exact h.putSection k _
  · exact h

/-! ### Changes of mode, resets and writes (R165, R167, R181) -/

omit h in
theorem enterRun (s : State) : s.enterRun.LatchesFollow := State.judgeLatches_follow _

omit h in
theorem enterConfig (s : State) : s.enterConfig.LatchesFollow := State.judgeLatches_follow _

omit h in
/-- A hardware reset leaves every line OFF (R5). -/
theorem hardwareReset (s : State) (straps : Byte) (ratePin : PinLevel) : (s.hardwareReset straps ratePin).LatchesFollow :=
  State.latchesFollow_of_off fun l => by
    rw [show (s.hardwareReset straps ratePin).tables.lines[l] = .reset from replicate_get ..]
    rfl

/-- A WRITE to LINE or PART judges the latches; no other table is read by one (R178). -/
theorem written {p : List Byte} {id : TableId} {tables : Tables} (hw : s.judgeWrite p = .ok (id, tables)) :
    ((s.setTables tables).linesAfterWrite id p).LatchesFollow := by
  by_cases hline : id = .line
  · exact State.linesAfterWrite_follow _ (.inl hline) p
  by_cases hpart : id = .part
  · exact State.linesAfterWrite_follow _ (.inr hpart) p
  obtain ⟨hlines, hrecord⟩ := State.judgeWrite_keeps hw hline hpart
  rw [State.linesAfterWrite_others _ hline hpart]
  exact h.of_alike rfl hlines hrecord (fun _ => rfl) (fun _ => rfl)

/-! ### Frames and requests -/

theorem act (c : RequestCode) (p : List Byte) : (s.act c p).1.LatchesFollow := by
  apply State.act_cases
  case kept | restart => exact h
  case hold | watchSet | captured => exact fun _ => h
  case toConfig => exact fun _ => enterConfig s
  case toRun => exact fun _ _ => enterRun s
  case written => exact fun _ _ hw => h.written hw
  case readmitted => exact fun n _ => h.readmitBroken n
  case restored => exact fun kind _ k _ => h.acceptRestore kind k
  case cancelled => exact fun _ k _ => h.putSection k _

theorem request (f : Frame) : (s.request f).LatchesFollow :=
  State.request_cases s f h (fun _ _ => h) fun c _ _ => h.act c _

theorem relayIn (f : Frame) : (s.relayIn f).LatchesFollow := by
  unfold State.relayIn
  split
  · exact h
  · split
    · exact h
    · exact h.channelFrame _ _ _ _

theorem headOrder (f : Frame) : (s.headOrder f).LatchesFollow :=
  State.headOrder_cases s f h (fun _ _ => h) fun _ => testHeads (s := s.queueOrder f) h f

theorem lineArrival (j : Judged) : (s.lineArrival j).LatchesFollow := by
  refine State.lineArrival_cases s j h h fun f _ => ?_
  have hh : (s.heard f).LatchesFollow := h
  generalize s.heard f = u at hh ⊢
  exact State.routeLine_cases _ f hh hh hh (hh.request f) (hh.relayIn f) (hh.headOrder f)

theorem fieldArrival (j : Judged) : (s.fieldArrival j).LatchesFollow := by
  refine State.fieldArrival_cases s j h h fun f _ => ?_
  have hh : (s.fieldHeard f).LatchesFollow := h
  generalize s.fieldHeard f = u at hh ⊢
  exact State.evaluate_cases _ f hh hh (fun k _ => hh.commitHead k _) (fun k _ => hh.wheelFrame k _ _ _)

/-! ### The transmitters, the timers and the pins -/

theorem afterSent (o : Outgoing) : (s.afterSent o).LatchesFollow := by
  unfold State.afterSent
  split
  · exact s.softRestart_follow
  · exact h

theorem takeReady {o : Outgoing} (ht : s.takeReady = some (o, t)) : t.LatchesFollow := by
  rw [State.takeReady_frame ht]
  exact h

theorem levelChange (l : Fin 8) (v : PinLevel) : (s.levelChange l v).LatchesFollow := by
  have hboard : (s.setLine l { s.lines[l] with board := v }).LatchesFollow := h.setLine rfl
  unfold State.levelChange
  dsimp only
  split
  · exact hboard.setLine (LineRun.levelChanged_latch ..)
  · exact hboard

theorem activationExpiry (l : Fin 8) : (s.activationExpiry l).LatchesFollow := by
  have hspent : (s.setLine l { s.lines[l] with activation := .spent, timer := none }).LatchesFollow := h.setLine rfl
  unfold State.activationExpiry
  split
  · exact hspent.localRestore _
  · exact h

theorem event (ht : Event s t) : t.LatchesFollow := by
  cases ht with
  | idle | tick | resetLow | orderSent => exact h
  | hardwareReset straps ratePin => exact hardwareReset s straps ratePin
  | levelChange l v => exact h.levelChange l v
  | fieldArrival j => exact h.fieldArrival j
  | lineArrival j => exact h.lineArrival j
  | headExpiry k => exact h.headExpiry k
  | channelExpiry c => exact h.channelExpiry c
  | restoreExpiry k => exact h.restoreExpiry k
  | activationExpiry l => exact h.activationExpiry l
  | silenceExpiry =>
    unfold State.silenceExpiry
    split <;> exact h
  | relayExpiry k =>
    unfold State.relayExpiry
    split <;> exact h
  | roundExpiry =>
    unfold State.roundExpiry
    split <;> exact h
  | arbiterTurn =>
    exact State.arbitrate_preserves (fun _ _ _ hs ht => hs.takeReady ht) (fun _ o hs => hs.afterSent o)
      (fun _ _ hs => hs) _ s h
  | lineSent =>
    unfold State.lineSent
    split
    · exact h
    · exact afterSent (s := s.setLinePort { s.linePort with tx := none }) h _
  | startOrder =>
    unfold State.startOrder
    split <;> exact h

end State.LatchesFollow

/-- Settles O10: whatever a latch reads changes together with the latches' judgement, event by event. -/
theorem latchesKeepFollowing : Obligations.LatchesKeepFollowing := by
  unfold Obligations.LatchesKeepFollowing
  exact fun s t hs ht => step_preserves (fun _ h => h) (fun _ _ h he => h.event he) hs ht

end Sys2Proof.Machine
end

section
/-! SUPPORT. The levels of a local line (R177), and the part while its reset pin is low (R181). -/

namespace Sys2Proof.Machine

/-! ## What the part drives and senses -/

theorem LineFunction.output_iff (f : LineFunction) : f.output = true ↔ f = .sectionOut ∨ f = .alarmOut := by
  cases f <;> simp [LineFunction.output]

section
variable (s : State) (l : Fin 8)

/-- An output's latch sinks the pin under its polarity (R177). -/
theorem State.drivesLow_iff : s.drivesLow l = true ↔
    s.pins.resetLow = false ∧ (s.tables.lines[l].function = .sectionOut ∨ s.tables.lines[l].function = .alarmOut) ∧
      ((s.tables.lines[l].polarity = .normal ∧ s.lines[l].latch = true) ∨
        (s.tables.lines[l].polarity = .inverted ∧ s.lines[l].latch = false)) := by
  rw [State.drivesLow, Bool.and_eq_true, Bool.and_eq_true, Bool.not_eq_true', LineFunction.output_iff, and_assoc]
  cases s.tables.lines[l].polarity <;> simp

theorem State.pinLow_iff : s.pinLow l = true ↔ s.drivesLow l = true ∨ s.lines[l].board = .low := by
  rw [State.pinLow, Bool.or_eq_true, beq_iff_eq]

/-- The pin's level after polarity (R177). -/
theorem State.sensed_iff : s.sensed l = true ↔
    (s.tables.lines[l].polarity = .normal ∧ s.pinLow l = true) ∨
      (s.tables.lines[l].polarity = .inverted ∧ ¬s.pinLow l = true) := by
  unfold State.sensed
  cases s.tables.lines[l].polarity <;> simp

end

/-! ## The reset pin low (R181) -/

/-- Every local line pin is released. -/
theorem State.drivesLow_of_low {s : State} (h : s.pins.resetLow = true) (l : Fin 8) : s.drivesLow l = false := by
  rw [State.drivesLow, h]
  rfl

theorem State.whenUp_low {s : State} (h : s.pins.resetLow = true) (t : State) : s.whenUp t = s := if_pos h

/-- Neither a frame nor an event inside the part acts before the release (assumption 5). -/
theorem exec_of_low {c : Instr} {s : State} (h : s.pins.resetLow = true) (hreset : ∀ a b, c ≠ .hardwareReset a b)
    (hlow : c ≠ .resetPinLow) (hlevel : ∀ l v, c ≠ .localLineLevelChange l v) : exec c s = .next s := by
  have hline (j : Judged) : s.lineArrival j = s := State.lineArrival_deaf (.inl h) j
  have hfield (j : Judged) : s.fieldArrival j = s :=
    State.fieldArrival_deaf (fun hon => Bool.false_ne_true (hon.1.symm.trans h)) j
  cases c
  case hardwareReset a b => exact absurd rfl (hreset a b)
  case resetPinLow => exact absurd rfl hlow
  case localLineLevelChange l v => exact absurd rfl (hlevel l v)
  case fieldFrameReceived | life | wheel => exact congrArg _ (hfield _)
  case supervisionTimerExpiry | channelSupervisionExpiry | silenceTimerExpiry | relayTimerExpiry | roundTimerExpiry |
      restoreTimerExpiry | restoreInTimerExpiry | arbiterTake | lineTransmitDone | fieldOrderTransmit | fieldTransmitDone =>
    exact congrArg _ (State.whenUp_low h _)
  all_goals exact congrArg _ (hline _)

/-- A new level at a pin is recorded and starts no activation. -/
theorem State.levelChange_low {s : State} (h : s.pins.resetLow = true) (l : Fin 8) (v : PinLevel) :
    s.levelChange l v = s.setLine l { s.lines[l] with board := v } := by
  unfold State.levelChange
  refine if_neg fun ⟨_, _, hup⟩ => ?_
  rw [h] at hup
  cases hup

/-- Settles O4: the two levels at a line, then what the low pin cuts off, keeps still and lets through. -/
theorem resetPinHoldsThePart : Obligations.ResetPinHoldsThePart := by
  unfold Obligations.ResetPinHoldsThePart
  refine ⟨fun s l => ⟨s.drivesLow_iff l, ?_⟩, fun s => ⟨s.resetLow, rfl, rfl, State.drivesLow_of_low rfl⟩,
    fun _ _ => exec_of_low, fun l v s h => congrArg _ (State.levelChange_low h l v)⟩
  rw [State.sensed_iff, State.pinLow_iff]

end Sys2Proof.Machine
end

section
/-! SUPPORT. Every invariant right after a hardware reset (R181): the part is in CONFIG, every section is OFF, every line is
OFF, and every queue is empty. -/

namespace Sys2Proof.Machine

section
variable (straps : Byte) (ratePin : PinLevel)

/-- The part at reset is what a hardware reset with the same pins makes of it. -/
theorem State.hardwareReset_atReset :
    (State.atReset straps ratePin).hardwareReset straps ratePin = State.atReset straps ratePin := by
  have hlines : (tab fun l => { LineRun.reset with board := (State.atReset straps ratePin).lines[l].board }) =
      (State.atReset straps ratePin).lines := by
    refine table_ext _ _ fun l => ?_
    rw [tab_get, show (State.atReset straps ratePin).lines[l] = .reset from replicate_get ..]
  exact congrArg (fun v => { State.atReset straps ratePin with lines := v }) hlines

/-- What every hardware reset brings holds of the part at reset. -/
theorem State.atReset_of_hardwareReset {P : State → Prop} (h : ∀ s : State, P (s.hardwareReset straps ratePin)) :
    P (State.atReset straps ratePin) := by
  rw [← State.hardwareReset_atReset]
  exact h _

theorem State.atReset_section (k : Fin 24) : (State.atReset straps ratePin).sections[k] = .reset := replicate_get ..

/-- A condition on records that a section at reset meets is met by all of them. -/
theorem State.eachSection_atReset {good : State → Fin 24 → SecRun → Prop}
    (h : ∀ k, good (State.atReset straps ratePin) k .reset) : (State.atReset straps ratePin).EachSection good := fun k => by
  rw [State.atReset_section]
  exact h k

/-- The ceiling at reset is the greatest a table may hold (R5, R90). -/
theorem State.atReset_ceilingFits (k : Fin 24) : (State.atReset straps ratePin).ceilingFits k := by
  have htable : (State.atReset straps ratePin).tables.sections[k] = .reset := replicate_get ..
  rw [State.ceilingFits, htable]
  decide

end

/-- Settles O5: what a hardware reset brings by itself, and the conditions of a section in OFF. -/
theorem resetMeetsEveryInvariant : Obligations.ResetMeetsEveryInvariant := by
  unfold Obligations.ResetMeetsEveryInvariant
  intro straps ratePin s
  have hoff : s.ConfigOff := s.configOff_iff.mpr (State.eachSection_atReset straps ratePin fun _ => .of_off rfl)
  have hsound : s.EachSection SoundGood := State.eachSection_atReset straps ratePin fun k =>
    ⟨.of_off rfl, SecRun.sound.reset _, State.atReset_ceilingFits straps ratePin k⟩
  have hclear : s.EachSection ClearGood := State.eachSection_atReset straps ratePin fun _ => .of_off rfl
  have hwarning : s.EachSection WarningGood := State.eachSection_atReset straps ratePin fun _ => .of_off rfl rfl
  refine ⟨?_, s.restoreTimersFollow_iff.mpr ⟨hoff, ?_⟩, s.sectionsSound_iff.mpr hsound, s.clearIsProven_iff.mpr hclear, ?_, ?_,
    s.warningsFollow_iff.mpr hwarning, State.runTablesValid_of_config rfl⟩
  · exact State.atReset_of_hardwareReset straps ratePin fun v => State.QueuesBounded.hardwareReset v straps ratePin
  · exact State.atReset_of_hardwareReset straps ratePin fun v => State.TimersMatch.hardwareReset v straps ratePin
  · exact State.atReset_of_hardwareReset straps ratePin fun v => State.LatchesFollow.hardwareReset v straps ratePin
  · exact State.atReset_of_hardwareReset straps ratePin fun v => State.SourcesSound.hardwareReset v straps ratePin

end Sys2Proof.Machine
end

section
/-! SUPPORT. The command queue is the model's own field (assumptions 4 and 13): no event of the part moves a waiting
command, and only `step` takes one. -/

namespace Sys2Proof.Machine

/-! ## The two kinds of step -/

theorem step_of_pending_cons {s : State} {c : Instr} {rest : List Instr} (h : s.pending = c :: rest) :
    step s = exec c { s with pending := rest } := by
  simp only [step, State.popped, h, List.tail_cons]

theorem step_of_pending_nil {s : State} (h : s.pending = []) : step s = .next s.tick := by simp only [step, h]

/-- Settles O1: the tick is the one event that waits for an empty queue, and it does not pass in reset. -/
theorem stepTakesFrontCommand : Obligations.StepTakesFrontCommand := by
  unfold Obligations.StepTakesFrontCommand
  exact ⟨fun _ _ _ h => step_of_pending_cons h, fun _ h => step_of_pending_nil h⟩

/-! ## Frames at the ports -/

section
variable (s : State)

@[simp] theorem State.fieldHeard_pending (f : Frame) : (s.fieldHeard f).pending = s.pending := rfl

@[simp] theorem State.reply_pending (f : Frame) (r : Reply) (restart : Bool) : (s.reply f r restart).pending = s.pending := rfl

@[simp] theorem State.linesAfterWrite_pending (id : TableId) (p : List Byte) :
    (s.linesAfterWrite id p).pending = s.pending := by cases id <;> rfl

@[simp] theorem State.act_pending (c : RequestCode) (p : List Byte) : (s.act c p).1.pending = s.pending := by
  apply State.act_cases (P := fun t => t.pending = s.pending)
  case kept | restart => rfl
  case toConfig => exact fun _ => rfl
  case toRun => exact fun _ _ => rfl
  case written => exact fun _ _ _ => State.linesAfterWrite_pending ..
  case readmitted => exact fun _ _ => State.readmitBroken_pending ..
  case hold | watchSet | captured => exact fun _ => rfl
  case restored => exact fun _ _ _ _ => State.acceptRestore_pending ..
  case cancelled => exact fun _ _ _ => State.disturb_pending ..

@[simp] theorem State.request_pending (f : Frame) : (s.request f).pending = s.pending :=
  State.request_cases (P := fun t => t.pending = s.pending) s f rfl (fun _ _ => rfl) (fun c _ _ => s.act_pending c _)

@[simp] theorem State.relayIn_pending (f : Frame) : (s.relayIn f).pending = s.pending := by
  unfold State.relayIn
  split
  · rfl
  · split
    · rfl
    · exact State.channelFrame_pending ..

@[simp] theorem State.headOrder_pending (f : Frame) : (s.headOrder f).pending = s.pending :=
  State.headOrder_cases (P := fun t => t.pending = s.pending) s f rfl (fun _ _ => rfl)
    (fun _ => State.testHeads_pending ..)

@[simp] theorem State.routeLine_pending (f : Frame) : (s.routeLine f).pending = s.pending :=
  State.routeLine_cases (P := fun t => t.pending = s.pending) s f rfl rfl rfl (s.request_pending f) (s.relayIn_pending f)
    (s.headOrder_pending f)

@[simp] theorem State.lineArrival_pending (j : Judged) : (s.lineArrival j).pending = s.pending :=
  State.lineArrival_cases (P := fun t => t.pending = s.pending) s j rfl rfl fun f _ => (s.heard f).routeLine_pending f

@[simp] theorem State.evaluate_pending (f : Frame) : (s.evaluate f).pending = s.pending :=
  State.evaluate_cases (P := fun t => t.pending = s.pending) s f rfl rfl (fun _ _ => State.lifeFrame_pending ..)
    (fun _ _ => State.wheelFrame_pending ..)

@[simp] theorem State.fieldArrival_pending (j : Judged) : (s.fieldArrival j).pending = s.pending :=
  State.fieldArrival_cases (P := fun t => t.pending = s.pending) s j rfl rfl fun f _ => (s.fieldHeard f).evaluate_pending f

/-! ## The transmitters, the timers and the pins -/

@[simp] theorem State.softRestart_pending : s.softRestart.pending = s.pending := by
  rcases s.mode.config_or_run with h | h
  · rw [State.softRestart_config h]; rfl
  · rw [State.softRestart_run h]; rfl

@[simp] theorem State.afterSent_pending (o : Outgoing) : (s.afterSent o).pending = s.pending := by
  unfold State.afterSent
  split
  · exact s.softRestart_pending
  · rfl

/-- Taking a ready frame moves the record of its class, never the commands (R11). -/
theorem State.takeReady_pending {s t : State} {o : Outgoing} (h : s.takeReady = some (o, t)) : t.pending = s.pending := by
  rcases State.takeReady_cases h with hc | hc | hc | hc | hc | hc
  · unfold State.takeAnswer at hc
    split at hc <;> cases hc
    rfl
  · unfold State.takeRelay at hc
    split at hc <;> cases hc
    rfl
  · unfold State.takeVerdict at hc
    split at hc
    · cases hc
    · split at hc <;> cases hc
      rfl
  · unfold State.takeRound at hc
    split at hc <;> cases hc
    rfl
  · unfold State.takeNotice at hc
    split at hc <;> cases hc
    rfl
  · unfold State.takeForward at hc
    split at hc <;> cases hc
    rfl

@[simp] theorem State.arbiterTurn_pending : s.arbiterTurn.pending = s.pending :=
  State.arbitrate_preserves (P := fun t => t.pending = s.pending) (fun _ _ _ hs ht => (State.takeReady_pending ht).trans hs)
    (fun t o hs => (t.afterSent_pending o).trans hs) (fun _ _ hs => hs) _ s rfl

@[simp] theorem State.lineSent_pending : s.lineSent.pending = s.pending := by
  unfold State.lineSent
  split
  · rfl
  · exact State.afterSent_pending ..

@[simp] theorem State.startOrder_pending : s.startOrder.pending = s.pending := by
  unfold State.startOrder
  split <;> rfl

@[simp] theorem State.silenceExpiry_pending : s.silenceExpiry.pending = s.pending := by
  unfold State.silenceExpiry
  split <;> rfl

@[simp] theorem State.roundExpiry_pending : s.roundExpiry.pending = s.pending := by
  unfold State.roundExpiry
  split <;> rfl

@[simp] theorem State.activationExpiry_pending (l : Fin 8) : (s.activationExpiry l).pending = s.pending := by
  unfold State.activationExpiry
  split
  · exact State.localRestore_pending ..
  · rfl

@[simp] theorem State.levelChange_pending (l : Fin 8) (v : PinLevel) : (s.levelChange l v).pending = s.pending := by
  unfold State.levelChange
  dsimp only
  split <;> rfl

end

/-! ## Every command -/

/-- No event moves the waiting commands; a hardware reset keeps them too (assumption 13). -/
theorem Event.pending_eq {s t : State} (h : Event s t) : t.pending = s.pending := by
  cases h with
  | idle | tick | resetLow | orderSent | hardwareReset => rfl
  | levelChange l v => exact s.levelChange_pending l v
  | fieldArrival j => exact s.fieldArrival_pending j
  | lineArrival j => exact s.lineArrival_pending j
  | headExpiry k => exact s.headExpiry_pending k
  | channelExpiry c => exact s.channelExpiry_pending c
  | silenceExpiry => exact s.silenceExpiry_pending
  | relayExpiry k => exact s.relayExpiry_pending k
  | roundExpiry => exact s.roundExpiry_pending
  | restoreExpiry k => exact s.restoreExpiry_pending k
  | activationExpiry l => exact s.activationExpiry_pending l
  | arbiterTurn => exact s.arbiterTurn_pending
  | lineSent => exact s.lineSent_pending
  | startOrder => exact s.startOrder_pending

/-- Each row's meaning is a next state: no row ends in a fault or a refusal (assumption 15). -/
theorem exec_next (c : Instr) (s : State) : ∃ t, exec c s = .next t := by cases c <;> exact ⟨_, rfl⟩

/-- Settles O2: every row answers a next state, which is one event, and no event moves the queue. -/
theorem everyCommandCompletes : Obligations.EveryCommandCompletes := by
  unfold Obligations.EveryCommandCompletes
  intro c s
  obtain ⟨t, ht⟩ := exec_next c s
  exact ⟨t, ht, (exec_event ht).pending_eq⟩

end Sys2Proof.Machine
end
